-- ==== Sys2Proof/Word.lean ====
section
/-! DEFINITION. The machine's words: bytes of IN, WIN and OUT, and the 32-bit operands and response values of the
command port (spec/00_scope.md R5, XLEN = 32; spec/30_encoding.md R61). -/

namespace Sys2Proof

/-- A byte of IN, WIN or OUT (spec/10_state.md R10, R17, R19). -/
abbrev Byte := BitVec 8

/-- A command operand or a response value (spec/30_encoding.md R61, R63). -/
abbrev Word := BitVec 32

/-- `lo <= x < hi`, on the mathematical integers in which the rules read operands (R61). -/
abbrev inRange (lo hi x : Int) : Bool := decide (lo ≤ x) && decide (x < hi)

end Sys2Proof
end

