-- ==== Sys2Proof/Config.lean ====
section
/-! DEFINITION. What is fixed for the machine: the constants of spec/00_scope.md R4, and the free values, which the
spec leaves unspecified. A free value is an opaque constant applied to a counter: nothing in Lean can prove what it
is (notes/assumptions/4.md). IN_MAX and OUT_MAX of R5 are unbounded (notes/assumptions/10.md), so they have no constant. -/

namespace Sys2Proof.Config

/-- WSIZE: the capacity of the window ring, and the largest distance (R4). -/
abbrev windowSize : Nat := 32768

/-- MAXCL: the longest codeword, in bits (R4). -/
abbrev maxCodeLength : Nat := 15

/-- FULL = 2^15: the value the construction counter must reach (R4). -/
abbrev fullCode : Nat := 32768

/-- MAXN: the largest bit count ReadUint takes (R4). -/
abbrev maxBitCount : Int := 31

/-- NLL_FIXED: symbols of the fixed literal/length code (R4). -/
abbrev fixedLLCount : Nat := 288

/-- ND_FIXED: symbols of the fixed distance code (R4). -/
abbrev fixedDCount : Nat := 32

/-- NCL: slots of the code-length code (R4). -/
abbrev codeLengthSlots : Nat := 19

/-- The size of LENBUF (R4). -/
abbrev lenBufSize : Nat := 320

/-- The places where the spec leaves a value unspecified (spec/93_implementation_defined.md U1 to U5). -/
inductive FreeItem
  | pos | cur | cnt | outLen | out | window | final | type | nlit | ndist | nclen | cll | lenBuf | lenCnt
  | distPresent | table | statusField
  deriving DecidableEq, Repr

/-- The free values: `freeValue k item i` is the value of place `item`, cell `i`, at the k-th occasion on which the
spec leaves values unspecified. It has no body: a claim that holds, holds for every choice (notes/assumptions/4.md). -/
opaque freeValue (occasion : Nat) (item : FreeItem) (i : Nat) : Nat

end Sys2Proof.Config
end

