-- ==== Sys2Proof/Machine/FaultKind.lean ====
section
/-! DEFINITION. The fault kinds of spec/60_exceptions.md R221 and their codes. Each of the sixteen kinds is a constructor
of its own (R247). A fault kind is what the core reports in ERR and in a response; it is no stop of the model: taking a
fault leads to a next state (R239). -/

namespace Sys2Proof.Machine

/-- The kinds, in the order of R221. -/
inductive FaultKind
  | unexpectedEndOfStream       -- R222
  | invalidBitCount             -- R223
  | overfullCode                -- R224
  | underfullCode               -- R225
  | reservedBlockType           -- R226
  | storedBlockLengthMismatch   -- R227
  | invalidRunLength            -- R228
  | reservedLengthSymbol        -- R229
  | invalidDistance             -- R230
  | reservedDistanceSymbol      -- R231
  | emptyDistanceCode           -- R232
  | noPreviousLengthToCopy      -- R233
  | codeLengthOverrun           -- R234
  | missingEndOfBlockSymbol     -- R235
  | corruptSymbol               -- R236
  | invalidLength               -- R237
  deriving DecidableEq, Repr

/-- The codes of R221; 0 means no fault. -/
def FaultKind.code (k : FaultKind) : Nat :=
  match k with
  | .unexpectedEndOfStream => 1
  | .invalidBitCount => 2
  | .overfullCode => 3
  | .underfullCode => 4
  | .reservedBlockType => 5
  | .storedBlockLengthMismatch => 6
  | .invalidRunLength => 7
  | .reservedLengthSymbol => 8
  | .invalidDistance => 9
  | .reservedDistanceSymbol => 10
  | .emptyDistanceCode => 11
  | .noPreviousLengthToCopy => 12
  | .codeLengthOverrun => 13
  | .missingEndOfBlockSymbol => 14
  | .corruptSymbol => 15
  | .invalidLength => 16

end Sys2Proof.Machine
end

