-- ==== Sys2Proof/Machine/Tables.lean ====
section
/-! DEFINITION. Code tables: the construction `Build` of spec/41_huffman.md R110 and the fixed tables of
spec/30_encoding.md R74. A table is the finite map of spec/10_state.md R14 as a list of (key, symbol) pairs in the order
in which Build assigns them, which is the order of rising keys. -/

namespace Sys2Proof.Machine

/-- A code table: a finite map from keys `(1 << L) | c` to symbols (R14). -/
abbrev Table := List (Nat × Nat)

/-- The symbol of a key, if the key is in the table. -/
def tableLookup (t : Table) (key : Nat) : Option Nat :=
  match t with
  | [] => none
  | (k, s) :: rest => if k = key then some s else tableLookup rest key

/-- The key of the codeword of length `len` and value `code`: a sentinel 1, then the code bits. It is `(1 << len) | code`
(R67) with the disjunction written as a sum, which is the same for a code below `2^len`. -/
def codeKey (len code : Nat) : Nat := 2 ^ len + code

/-- One length of Build (R110): the symbols, from index `s` on, whose required length is `len` get consecutive codes
from `next` on. Answers the counter and the pairs assigned. -/
def assignLength (len : Nat) (lens : List Nat) (s next : Nat) : Except FaultKind (Nat × Table) :=
  match lens with
  | [] => .ok (next, [])
  | l :: rest =>
    if l = len then
      if 2 ^ len ≤ next then .error .overfullCode
      else
        match assignLength len rest (s + 1) (next + 1) with
        | .ok (n, t) => .ok (n, (codeKey len next, s) :: t)
        | .error k => .error k
    else assignLength len rest (s + 1) next

/-- The lengths `todo` of Build, in order; the counter is doubled on entering each (R110). -/
def assignLengths (lens todo : List Nat) (next : Nat) : Except FaultKind (Nat × Table) :=
  match todo with
  | [] => .ok (next, [])
  | len :: rest =>
    match assignLength len lens 0 (2 * next) with
    | .error k => .error k
    | .ok (n, t) =>
      match assignLengths lens rest n with
      | .error k => .error k
      | .ok (m, u) => .ok (m, t ++ u)

/-- The candidate lengths 1 to 15 (R110). -/
def candidateLengths : List Nat := [1, 2, 3, 4, 5, 6, 7, 8, 9, 10, 11, 12, 13, 14, 15]

/-- `Build(lens)` (R110): the table of a sequence of code lengths, or OverfullCode or UnderfullCode. -/
def build (lens : List Nat) : Except FaultKind Table :=
  match assignLengths lens candidateLengths 0 with
  | .error k => .error k
  | .ok (n, t) => if n = Config.fullCode then .ok t else .error .underfullCode

/-- The table a successful construction gives, or EMPTY. -/
def buildOrEmpty (lens : List Nat) : Option Table := (build lens).toOption

/-- FIXED_LL_LENS: 144 symbols of 8 bits, 112 of 9, 24 of 7, 8 of 8 (R74). -/
def fixedLLLens : List Nat :=
  List.replicate 144 8 ++ List.replicate 112 9 ++ List.replicate 24 7 ++ List.replicate 8 8

/-- FIXED_D_LENS: 32 symbols of 5 bits (R74). -/
def fixedDLens : List Nat := List.replicate 32 5

/-- The fixed literal/length table `Build(FIXED_LL_LENS)`, held by TBL[0] from reset on (R74, R262). -/
@[irreducible] def fixedLLTable : Option Table := buildOrEmpty fixedLLLens

/-- The fixed distance table `Build(FIXED_D_LENS)`, held by TBL[1] from reset on (R74, R262). -/
@[irreducible] def fixedDTable : Option Table := buildOrEmpty fixedDLens

end Sys2Proof.Machine
end

