-- ==== Sys2Proof/Syntax.lean ====
section
/-! DEFINITION. The syntax: the command word (spec/30_encoding.md R61) and one constructor of `Instr` for each row of
spec/opcode_table.json. A row is a command of the command port (format CMD) or an element of the DEFLATE stream that
the block decoder interprets (the other formats); spec/00_scope.md section 1 says that these two play the role of
an instruction set. -/

namespace Sys2Proof

/-- A command: the operation code `op[3:0]` and the operands `a`, `b`, `c` (R61). -/
structure Command where
  op : BitVec 4
  a : Word
  b : Word
  c : Word
  deriving DecidableEq, Repr

/-- The formats of the stream elements' rows in spec/opcode_table.json; a group of the preamble carries its index. -/
inductive Format
  | hdr | storedPad | storedLen | storedNlen | storedData
  | llSymbol | dSymbol | preHlit | preHdist | preHclen | preCll (group : Nat) | clSymbol
  | fixedLL | fixedD
  deriving DecidableEq, Repr

/-- An encoded instruction: a command word, or a stream element as the number its row's `match` and `mask` are on
(the field's value, the decoded symbol, or, for the fixed tables, the key in ACC). -/
inductive Encoded
  | command (c : Command)
  | element (f : Format) (w : Nat)
  deriving DecidableEq, Repr

/-- The instructions, one constructor for each row of spec/opcode_table.json. Command operands are the integers of
R61; the operand of a stream element is the row's field. -/
inductive Instr
  -- CMD: commands (R62)
  | reset | brPos | brTry | brRdu (n : Int) | hcBld (slot : Int) (base : Int) (count : Int)
  | hcDec (slot : Int) | swApp (byte : Int) | swCpy (distance : Int) (length : Int) | bdRun
  | lbSet (index : Int) (value : Int) | csrRd (number : Int) | reserved11 | reserved12 | reserved13
  | reserved14 | reserved15
  -- HDR: block header (R64, R65)
  | hdrStored (final : Bool) | hdrFixed (final : Bool) | hdrDynamic (final : Bool)
  | hdrReserved (final : Bool)
  -- STORED: stored block (R66)
  | storedPad | storedLen (len : Nat) | storedNlen (nlen : Nat) | storedData (byte : Nat)
  -- LL_SYMBOL: literal/length symbols (R69)
  | lit (byte : Nat) | eob | lsym257 | lsym258 | lsym259 | lsym260 | lsym261 | lsym262 | lsym263 | lsym264
  | lsym265 | lsym266 | lsym267 | lsym268 | lsym269 | lsym270 | lsym271 | lsym272 | lsym273 | lsym274
  | lsym275 | lsym276 | lsym277 | lsym278 | lsym279 | lsym280 | lsym281 | lsym282 | lsym283 | lsym284
  | lsym285 | lsym286 | lsym287
  -- D_SYMBOL: distance symbols (R70)
  | dsym0 | dsym1 | dsym2 | dsym3 | dsym4 | dsym5 | dsym6 | dsym7 | dsym8 | dsym9 | dsym10 | dsym11 | dsym12
  | dsym13 | dsym14 | dsym15 | dsym16 | dsym17 | dsym18 | dsym19 | dsym20 | dsym21 | dsym22 | dsym23 | dsym24
  | dsym25 | dsym26 | dsym27 | dsym28 | dsym29 | dsym30 | dsym31
  -- PREAMBLE: dynamic preamble (R71, R72)
  | preHlit (h : Nat) | preHdist (d : Nat) | preHclen (c : Nat) | preCll0 (v : Nat) | preCll1 (v : Nat)
  | preCll2 (v : Nat) | preCll3 (v : Nat) | preCll4 (v : Nat) | preCll5 (v : Nat) | preCll6 (v : Nat)
  | preCll7 (v : Nat) | preCll8 (v : Nat) | preCll9 (v : Nat) | preCll10 (v : Nat) | preCll11 (v : Nat)
  | preCll12 (v : Nat) | preCll13 (v : Nat) | preCll14 (v : Nat) | preCll15 (v : Nat) | preCll16 (v : Nat)
  | preCll17 (v : Nat) | preCll18 (v : Nat)
  -- CL_SYMBOL: code-length symbols (R73)
  | clsym0 | clsym1 | clsym2 | clsym3 | clsym4 | clsym5 | clsym6 | clsym7 | clsym8 | clsym9 | clsym10
  | clsym11 | clsym12 | clsym13 | clsym14 | clsym15 | clsym16 | clsym17 | clsym18
  -- FIXED_LL: codewords of the fixed literal/length table (R74)
  | fixedLit0 | fixedLit1 | fixedLit2 | fixedLit3 | fixedLit4 | fixedLit5 | fixedLit6 | fixedLit7 | fixedLit8
  | fixedLit9 | fixedLit10 | fixedLit11 | fixedLit12 | fixedLit13 | fixedLit14 | fixedLit15 | fixedLit16
  | fixedLit17 | fixedLit18 | fixedLit19 | fixedLit20 | fixedLit21 | fixedLit22 | fixedLit23 | fixedLit24
  | fixedLit25 | fixedLit26 | fixedLit27 | fixedLit28 | fixedLit29 | fixedLit30 | fixedLit31 | fixedLit32
  | fixedLit33 | fixedLit34 | fixedLit35 | fixedLit36 | fixedLit37 | fixedLit38 | fixedLit39 | fixedLit40
  | fixedLit41 | fixedLit42 | fixedLit43 | fixedLit44 | fixedLit45 | fixedLit46 | fixedLit47 | fixedLit48
  | fixedLit49 | fixedLit50 | fixedLit51 | fixedLit52 | fixedLit53 | fixedLit54 | fixedLit55 | fixedLit56
  | fixedLit57 | fixedLit58 | fixedLit59 | fixedLit60 | fixedLit61 | fixedLit62 | fixedLit63 | fixedLit64
  | fixedLit65 | fixedLit66 | fixedLit67 | fixedLit68 | fixedLit69 | fixedLit70 | fixedLit71 | fixedLit72
  | fixedLit73 | fixedLit74 | fixedLit75 | fixedLit76 | fixedLit77 | fixedLit78 | fixedLit79 | fixedLit80
  | fixedLit81 | fixedLit82 | fixedLit83 | fixedLit84 | fixedLit85 | fixedLit86 | fixedLit87 | fixedLit88
  | fixedLit89 | fixedLit90 | fixedLit91 | fixedLit92 | fixedLit93 | fixedLit94 | fixedLit95 | fixedLit96
  | fixedLit97 | fixedLit98 | fixedLit99 | fixedLit100 | fixedLit101 | fixedLit102 | fixedLit103 | fixedLit104
  | fixedLit105 | fixedLit106 | fixedLit107 | fixedLit108 | fixedLit109 | fixedLit110 | fixedLit111
  | fixedLit112 | fixedLit113 | fixedLit114 | fixedLit115 | fixedLit116 | fixedLit117 | fixedLit118
  | fixedLit119 | fixedLit120 | fixedLit121 | fixedLit122 | fixedLit123 | fixedLit124 | fixedLit125
  | fixedLit126 | fixedLit127 | fixedLit128 | fixedLit129 | fixedLit130 | fixedLit131 | fixedLit132
  | fixedLit133 | fixedLit134 | fixedLit135 | fixedLit136 | fixedLit137 | fixedLit138 | fixedLit139
  | fixedLit140 | fixedLit141 | fixedLit142 | fixedLit143 | fixedLit144 | fixedLit145 | fixedLit146
  | fixedLit147 | fixedLit148 | fixedLit149 | fixedLit150 | fixedLit151 | fixedLit152 | fixedLit153
  | fixedLit154 | fixedLit155 | fixedLit156 | fixedLit157 | fixedLit158 | fixedLit159 | fixedLit160
  | fixedLit161 | fixedLit162 | fixedLit163 | fixedLit164 | fixedLit165 | fixedLit166 | fixedLit167
  | fixedLit168 | fixedLit169 | fixedLit170 | fixedLit171 | fixedLit172 | fixedLit173 | fixedLit174
  | fixedLit175 | fixedLit176 | fixedLit177 | fixedLit178 | fixedLit179 | fixedLit180 | fixedLit181
  | fixedLit182 | fixedLit183 | fixedLit184 | fixedLit185 | fixedLit186 | fixedLit187 | fixedLit188
  | fixedLit189 | fixedLit190 | fixedLit191 | fixedLit192 | fixedLit193 | fixedLit194 | fixedLit195
  | fixedLit196 | fixedLit197 | fixedLit198 | fixedLit199 | fixedLit200 | fixedLit201 | fixedLit202
  | fixedLit203 | fixedLit204 | fixedLit205 | fixedLit206 | fixedLit207 | fixedLit208 | fixedLit209
  | fixedLit210 | fixedLit211 | fixedLit212 | fixedLit213 | fixedLit214 | fixedLit215 | fixedLit216
  | fixedLit217 | fixedLit218 | fixedLit219 | fixedLit220 | fixedLit221 | fixedLit222 | fixedLit223
  | fixedLit224 | fixedLit225 | fixedLit226 | fixedLit227 | fixedLit228 | fixedLit229 | fixedLit230
  | fixedLit231 | fixedLit232 | fixedLit233 | fixedLit234 | fixedLit235 | fixedLit236 | fixedLit237
  | fixedLit238 | fixedLit239 | fixedLit240 | fixedLit241 | fixedLit242 | fixedLit243 | fixedLit244
  | fixedLit245 | fixedLit246 | fixedLit247 | fixedLit248 | fixedLit249 | fixedLit250 | fixedLit251
  | fixedLit252 | fixedLit253 | fixedLit254 | fixedLit255 | fixedEob | fixedLsym257 | fixedLsym258
  | fixedLsym259 | fixedLsym260 | fixedLsym261 | fixedLsym262 | fixedLsym263 | fixedLsym264 | fixedLsym265
  | fixedLsym266 | fixedLsym267 | fixedLsym268 | fixedLsym269 | fixedLsym270 | fixedLsym271 | fixedLsym272
  | fixedLsym273 | fixedLsym274 | fixedLsym275 | fixedLsym276 | fixedLsym277 | fixedLsym278 | fixedLsym279
  | fixedLsym280 | fixedLsym281 | fixedLsym282 | fixedLsym283 | fixedLsym284 | fixedLsym285 | fixedLsym286
  | fixedLsym287
  -- FIXED_D: codewords of the fixed distance table (R74)
  | fixedDsym0 | fixedDsym1 | fixedDsym2 | fixedDsym3 | fixedDsym4 | fixedDsym5 | fixedDsym6 | fixedDsym7
  | fixedDsym8 | fixedDsym9 | fixedDsym10 | fixedDsym11 | fixedDsym12 | fixedDsym13 | fixedDsym14
  | fixedDsym15 | fixedDsym16 | fixedDsym17 | fixedDsym18 | fixedDsym19 | fixedDsym20 | fixedDsym21
  | fixedDsym22 | fixedDsym23 | fixedDsym24 | fixedDsym25 | fixedDsym26 | fixedDsym27 | fixedDsym28
  | fixedDsym29 | fixedDsym30 | fixedDsym31
  deriving DecidableEq, Repr

end Sys2Proof
end

