-- ==== Sys2Proof/Machine/State.lean ====
section
/-! DEFINITION. The state of the core as plain data: every element of spec/10_state.md, the command port and the response
of spec/30_encoding.md R61 and R63, and the model's own place marker inside a BD.RUN with the counter of the free values. -/

namespace Sys2Proof.Machine

/-- STATE, the states of the block decoder (spec/10_state.md R20). -/
inductive BdState
  | readingBlockHeader | storedBlock | fixedHuffmanBlock | dynamicHuffmanBlock | done | failed
  deriving DecidableEq, Repr

/-- The status of a response, in the order of its numbers 0 to 3, which `Status.code` gives (spec/30_encoding.md R63). -/
inductive Status
  | ok | none | fault | refused
  deriving DecidableEq, Repr

/-- A response, `status[1:0]` and `value[31:0]` (R63). -/
structure Response where
  status : Status
  value : Word
  deriving DecidableEq, Repr

/-- Where the next stream element of a BD.RUN stands, with the local values the pseudocode carries from one element to
the next (spec/43_block_decoder.md R151 to R158, spec/44_dynamic_tables.md R190 to R196). `idle`: no BD.RUN is in
progress and the core accepts a command. The model's own (notes/assumptions/1.md). -/
inductive Phase
  | idle
  | header
  | storedPad
  | storedLen
  | storedNlen (len : Nat)
  | storedData (left : Nat)
  | preHlit
  | preHdist
  | preHclen
  | preCll (group : Nat)
  | codeLength
  | symbol
  | distance (run : Nat)
  deriving DecidableEq, Repr

/-- The cells of WIN that have been written since the window's last initialisation, in the canonical form of
`Memory.wf`: indexes strictly rising, all below 32768. An index that is not listed has no byte of its own, so that no
entry can equal what an unlisted index holds (notes/assumptions/6.md). -/
abbrev Memory := List Host.Cell

/-- The state. -/
structure State where
  /-- IN; N is its length (R10). No instruction writes it. -/
  inp : List Byte
  /-- POS, the number of stream bits consumed (R11). -/
  pos : Nat
  /-- TBL[0], FIXED_LL (R14). -/
  tblFixedLL : Option Table
  /-- TBL[1], FIXED_D (R14). -/
  tblFixedD : Option Table
  /-- TBL[2], CLC (R14). -/
  tblClc : Option Table
  /-- TBL[3], DYN_LL (R14). -/
  tblDynLL : Option Table
  /-- TBL[4], DYN_D (R14). -/
  tblDynD : Option Table
  /-- WIN: the cells written since the last initialisation, by rising index (R17, notes/assumptions/6.md). -/
  win : Memory
  /-- The occasion of the free values that the other cells of WIN hold. -/
  winEra : Nat
  /-- CUR, the write cursor (R17). -/
  cur : Nat
  /-- CNT, the number of bytes stored (R17). -/
  cnt : Nat
  /-- OUT; OUT_LEN is its length (R19). -/
  out : List Byte
  /-- Whether the host may read OUT (spec/45_top_level.md R212). -/
  outReady : Bool
  /-- STATE (R20). -/
  bdState : BdState
  /-- FINAL (R21). -/
  final : Bool
  /-- TYPE (R21). -/
  type : Nat
  /-- NLIT (R22). -/
  nlit : Nat
  /-- NDIST (R22). -/
  ndist : Nat
  /-- NCLEN (R22). -/
  nclen : Nat
  /-- CLL[0..18] (R22). -/
  cll : List Nat
  /-- LENBUF[0..319] (R22). -/
  lenBuf : List Nat
  /-- LEN_CNT (R22). -/
  lenCnt : Nat
  /-- DIST_PRESENT (R23). -/
  distPresent : Bool
  /-- ERR: the kind of the first fault since reset; `none` is the spec's code 0, no fault (R24). -/
  err : Option FaultKind
  /-- Where the next stream element stands. -/
  phase : Phase
  /-- The commands the host presents, one after another, oldest first (R61, R214). -/
  port : List Command
  /-- The response to the last command, if one has been given (R63). -/
  resp : Option Response
  /-- The next occasion of free values (notes/assumptions/4.md). -/
  free : Nat
  deriving DecidableEq, Repr

/-- Why the machine stops with a fault. Faults of the core are no stops: they lead to FAILED, a next state (R239). -/
inductive Fault
  /-- Raised by the meaning of a stream element in a state in which the block decoder does not read an element of that
  format: the spec gives the element no effect there. `step` never presents one (notes/assumptions/7.md). Safe. -/
  | elementOutOfPlace
  deriving DecidableEq, Repr

/-- Why an instruction has no meaning. -/
inductive Refusal
  /-- Raised by an arm of `exec` whose instruction has no meaning yet; no arm is left so. Safe. -/
  | notModelled (mnemonic : String)
  deriving DecidableEq, Repr

/-- The state after reset (spec/10_state.md R29), with no input supplied and no command presented
(notes/assumptions/2.md). Cells of WIN are unspecified, so none is listed. -/
def State.reset : State where
  inp := []
  pos := 0
  tblFixedLL := fixedLLTable
  tblFixedD := fixedDTable
  tblClc := none
  tblDynLL := none
  tblDynD := none
  win := []
  winEra := 0
  cur := 0
  cnt := 0
  out := []
  outReady := false
  bdState := .readingBlockHeader
  final := false
  type := 0
  nlit := 257
  ndist := 1
  nclen := 4
  cll := List.replicate Config.codeLengthSlots 0
  lenBuf := List.replicate Config.lenBufSize 0
  lenCnt := 0
  distPresent := false
  err := none
  phase := .idle
  port := []
  resp := none
  free := 1

/-- The outcome of an instruction or of a step. -/
abbrev Result := Host.Outcome State Fault Refusal

end Sys2Proof.Machine
end

