-- ==== Sys2Proof/Machine/Ops.lean ====
section
/-! DEFINITION. The named operations over the state: the window's memory, the bit reader's primitives
(spec/40_bit_reader.md), Decode (spec/41_huffman.md R112), Append, CopyBack and Emit (spec/42_sliding_window.md), responses
and refusals, taking a fault and the return from it (spec/60_exceptions.md R239, R241), and the initialisations
(spec/70_reset_and_hazards.md R260, R261). -/

namespace Sys2Proof.Machine

/-! ### The window's memory -/

/-- The byte at an index, if the index has been written. -/
def Memory.read (m : Memory) (a : Nat) : Option Byte :=
  match m with
  | [] => none
  | (k, b) :: rest => if k = a then some b else Memory.read rest a

/-- Write one byte, keeping the indexes strictly rising. -/
def Memory.write (m : Memory) (a : Nat) (v : Byte) : Memory :=
  match m with
  | [] => [(a, v)]
  | (k, b) :: rest =>
    if a < k then (a, v) :: (k, b) :: rest
    else if a = k then (a, v) :: rest
    else (k, b) :: Memory.write rest a v

/-- The indexes are strictly rising from `lo` on and below the capacity of the ring. -/
def Memory.wfFrom (lo : Nat) (m : Memory) : Bool :=
  match m with
  | [] => true
  | (k, _) :: rest => decide (lo ≤ k) && decide (k < Config.windowSize) && Memory.wfFrom (k + 1) rest

/-- The canonical form of WIN's cells (spec/20_memory.md R52: indexes 0..32767). -/
def Memory.wf (m : Memory) : Bool := Memory.wfFrom 0 m

/-! ### Free values (notes/assumptions/4.md) -/

/-- The free value of a place on the next occasion. -/
def State.freeNat (s : State) (item : Config.FreeItem) (i : Nat) : Nat := Config.freeValue s.free item i

/-- `n` free values below `bound`. -/
def State.freeList (s : State) (item : Config.FreeItem) (n bound : Nat) : List Nat :=
  (List.range n).map fun i => s.freeNat item (i + 1) % bound

/-- A free content of a table slot: EMPTY, or a table that some Build returned (spec/20_memory.md R57). -/
def State.freeTable (s : State) (slot : Nat) : Option Table :=
  let base := slot * 1000
  buildOrEmpty ((List.range (s.freeNat .table base % 321)).map fun i => s.freeNat .table (base + 1 + i) % 16)

/-- A free content of OUT. -/
def State.freeOut (s : State) : List Byte :=
  (List.range (s.freeNat .outLen 0)).map fun i => BitVec.ofNat 8 (s.freeNat .out i)

/-- The byte of a WIN cell: the one written last, or, for a cell not written since the window's initialisation, a free
value (spec/10_state.md R17, R28). -/
def State.windowByte (s : State) (i : Nat) : Byte :=
  (Memory.read s.win i).getD (BitVec.ofNat 8 (Config.freeValue s.winEra .window i))

/-- The preamble's registers, LENBUF and TBL[2..4] become unspecified, each within its range (spec/10_state.md R22). -/
def State.unspecifyPreamble (s : State) : State :=
  { s with
    nlit := 257 + s.freeNat .nlit 0 % 32
    ndist := 1 + s.freeNat .ndist 0 % 32
    nclen := 4 + s.freeNat .nclen 0 % 16
    cll := s.freeList .cll Config.codeLengthSlots 8
    lenBuf := s.freeList .lenBuf Config.lenBufSize 16
    lenCnt := s.freeNat .lenCnt 0 % 321
    tblClc := s.freeTable 2
    tblDynLL := s.freeTable 3
    tblDynD := s.freeTable 4 }

/-! ### Responses and refusals -/

/-- Respond OK with a value; `value[31:0]` holds its low 32 bits (R63, notes/assumptions/10.md). -/
def State.respondOk (s : State) (value : Nat) : State :=
  { s with resp := some ⟨.ok, BitVec.ofNat 32 value⟩ }

/-- Respond NONE, value 0 (R63, R91). -/
def State.respondNone (s : State) : State := { s with resp := some ⟨.none, 0⟩ }

/-- A refused command responds REFUSED, value 0, and changes no state (R63, R244). -/
def State.refuse (s : State) : State := { s with resp := some ⟨.refused, 0⟩ }

/-! ### Taking a fault, and the return from it -/

/-- Fault entry (R239): ERR takes the code if it was 0, STATE becomes FAILED, the response is FAULT with the code, and
the operation ends. IN, TBL[0] and TBL[1] are unchanged; every other state element is unspecified from then on: a free
value within the element's range (notes/assumptions/5.md). OUT may not be read (R240). -/
def State.takeFault (s : State) (k : FaultKind) : State :=
  { s.unspecifyPreamble with
    err := some (s.err.getD k)
    bdState := .failed
    resp := some ⟨.fault, BitVec.ofNat 32 k.code⟩
    phase := .idle
    outReady := false
    pos := s.freeNat .pos 0 % (8 * s.inp.length + 1)
    win := []
    winEra := s.free
    cur := s.freeNat .cur 0 % Config.windowSize
    cnt := s.freeNat .cnt 0 % (Config.windowSize + 1)
    out := s.freeOut
    final := s.freeNat .final 0 % 2 == 1
    type := s.freeNat .type 0 % 4
    distPresent := s.freeNat .distPresent 0 % 2 == 1
    free := s.free + 1 }

/-- The end of an operation that may raise: its next state, or fault entry (R220). -/
def finish (s : State) (r : Except FaultKind State) : Result :=
  match r with
  | .ok t => .next t
  | .error k => .next (s.takeFault k)

/-- The reset of R260, the only way out of FAILED (R241): every element takes its value of `State.reset`; IN and N, and
the commands the host still presents, are the host's and stay. The response is the caller's. -/
def State.restart (s : State) : State :=
  { State.reset with inp := s.inp, port := s.port, resp := s.resp, winEra := s.free, free := s.free + 1 }

/-- In FAILED every command but RESET and CSR.RD is refused (R241, R244). -/
def unlessFailed (s : State) (r : Result) : Result :=
  if s.bdState = .failed then .next s.refuse else r

/-! ### The bit reader -/

/-- N, the length of IN in bytes (R10). -/
def State.inLen (s : State) : Nat := s.inp.length

/-- `BIT(p) = floor(IN[p div 8] / 2^(p mod 8)) mod 2` (R13). No operation asks for a bit at or beyond 8N. -/
def bitAt (inp : List Byte) (p : Nat) : Nat := (inp.getD (p / 8) 0).toNat / 2 ^ (p % 8) % 2

/-- The `n` bits from `p` on as a number, the first bit least significant (R43). -/
def bitsAt (inp : List Byte) (p n : Nat) : Nat :=
  match n with
  | 0 => 0
  | n + 1 => bitAt inp p + 2 * bitsAt inp (p + 1) n

/-- Move POS to `p`. -/
def State.withPos (s : State) (p : Nat) : State := { s with pos := p }

/-- `ReadUint(n)` (R92): the count is tested before the stream is touched (92 D9), availability of all bits up front
(92 D10). -/
def State.readUint (s : State) (n : Int) : Except FaultKind (Nat × State) :=
  if n < 0 ∨ Config.maxBitCount < n then .error .invalidBitCount
  else if 8 * s.inLen < s.pos + n.toNat then .error .unexpectedEndOfStream
  else .ok (bitsAt s.inp s.pos n.toNat, s.withPos (s.pos + n.toNat))

/-- `ReadBit()` is ReadUint(1) (R93). -/
def State.readBit (s : State) : Except FaultKind (Nat × State) := s.readUint 1

/-- `ReadByte()` is ReadUint(8) at an aligned POS (R95). -/
def State.readByte (s : State) : Except FaultKind (Nat × State) := s.readUint 8

/-- `AlignToByte()`: the bits up to the next byte boundary are discarded unread, `POS <- 8 * ceil(POS / 8)` (R94). -/
def State.alignToByte (s : State) : State := s.withPos ((s.pos + 7) / 8 * 8)

/-! ### Decode -/

/-- The loop of Decode (R112) with `left` bits left in IN: shift the accumulator, OR in one bit, probe. Answers the key
found, its symbol and the new POS. -/
def decodeLoop (t : Table) (inp : List Byte) (left acc p : Nat) : Except FaultKind (Nat × Nat × Nat) :=
  match left with
  | 0 => .error .unexpectedEndOfStream
  | left + 1 =>
    match tableLookup t (2 * acc + bitAt inp p) with
    | some sym => .ok (2 * acc + bitAt inp p, sym, p + 1)
    | none => decodeLoop t inp left (2 * acc + bitAt inp p) (p + 1)

/-- `Decode(t)` (R112): the key in ACC, the symbol, and the state with POS behind the codeword. ACC starts at 1 and does
not outlive the Decode (R16). -/
def State.decodeSymbol (s : State) (t : Table) : Except FaultKind (Nat × Nat × State) :=
  match decodeLoop t s.inp (8 * s.inLen - s.pos) 1 s.pos with
  | .ok (key, sym, p) => .ok (key, sym, s.withPos p)
  | .error k => .error k

/-! ### The sliding window -/

/-- `Append(b)` (R130). -/
def State.append (s : State) (b : Byte) : State :=
  { s with
    win := Memory.write s.win s.cur b
    cur := (s.cur + 1) % Config.windowSize
    cnt := min (s.cnt + 1) Config.windowSize }

/-- `Emit(b)` (R156): the byte enters OUT and the window together. -/
def State.emit (s : State) (b : Byte) : State := { s with out := s.out ++ [b] }.append b

/-- The loop of CopyBack (R131): the byte read at `r` is appended before the next one is read (R54). -/
def copyLoop (s : State) (r length : Nat) : State :=
  match length with
  | 0 => s
  | length + 1 => copyLoop (s.emit (s.windowByte r)) ((r + 1) % Config.windowSize) length

/-- `CopyBack(distance, length)` (R131); the distance is tested first (92 D11). -/
def State.copyBack (s : State) (distance length : Int) : Except FaultKind State :=
  if distance < 1 ∨ (s.cnt : Int) < distance then .error .invalidDistance
  else if length < 0 then .error .invalidLength
  else .ok (copyLoop s (((s.cur : Int) - distance) % Config.windowSize).toNat length.toNat)

/-! ### Table slots -/

/-- The content of slot 0 to 4 (R14); `none` beyond. -/
def State.table (s : State) (slot : Nat) : Option Table :=
  match slot with
  | 0 => s.tblFixedLL
  | 1 => s.tblFixedD
  | 2 => s.tblClc
  | 3 => s.tblDynLL
  | 4 => s.tblDynD
  | _ => none

/-- Replace slot 2, 3 or 4 as a whole (R15); slots 0 and 1 are read-only (R14). -/
def State.setTable (s : State) (slot : Nat) (t : Option Table) : State :=
  match slot with
  | 2 => { s with tblClc := t }
  | 3 => { s with tblDynLL := t }
  | 4 => { s with tblDynD := t }
  | _ => s

/-! ### The block decoder's frame -/

/-- The state and the place of the block decoder. -/
def State.enter (s : State) (b : BdState) (p : Phase) : State := { s with bdState := b, phase := p }

/-- The place of the next stream element. -/
def State.goto (s : State) (p : Phase) : State := { s with phase := p }

/-- `PerCallInit()` (R261), with the block loop's first `STATE <- ReadingBlockHeader` (R210). The window's cells become
unspecified and OUT may not be read until the run ends. -/
def State.perCallInit (s : State) : State :=
  { s with
    pos := 0
    win := []
    winEra := s.free
    free := s.free + 1
    cur := 0
    cnt := 0
    out := []
    outReady := false
    bdState := .readingBlockHeader
    phase := .header
    final := false
    type := 0
    distPresent := false }

/-- The end of the stream (R210 to R212): AlignToByte, STATE <- Done, the response OUT_LEN; OUT may be read. The
preamble's registers and TBL[2..4] are unspecified from then on (R22). -/
def State.endRun (s : State) : State :=
  { s.unspecifyPreamble.alignToByte.respondOk s.out.length with
    bdState := .done
    phase := .idle
    outReady := true
    free := s.free + 1 }

/-- The end of a block (R150, R157): the next header at the current POS, or the end of the stream if FINAL = 1. -/
def State.endBlock (s : State) : State :=
  if s.final then s.endRun else s.enter .readingBlockHeader .header

/-- A stream element runs only where the block decoder reads an element of its format (notes/assumptions/7.md). -/
def inPlace (ok : Bool) (s : State) (r : Except FaultKind State) : Result :=
  if ok then finish s r else .fault .elementOutOfPlace

end Sys2Proof.Machine
end

