-- ==== Sys2Proof/Machine/Operands.lean ====
section
/-! DEFINITION. Operands: the domains of command operands (spec/60_exceptions.md R244), and the operands that stream
elements assemble with extra bits from the stream: run lengths (spec/30_encoding.md R69), distances (R70), the slot
order of the preamble (R72) and the repeat counts of the code-length alphabet (R73). -/

namespace Sys2Proof.Machine

/-- The slots HC.BLD may write: 2, 3, 4 (R116). -/
def buildSlotOk (slot : Int) : Bool := inRange 2 5 slot

/-- A span of LENBUF: base and count not negative, end not beyond 320 (R116). -/
def spanOk (base count : Int) : Bool :=
  decide (0 ≤ base) && decide (0 ≤ count) && decide (base + count ≤ Config.lenBufSize)

/-- The slots HC.DEC may name: 0 to 4 (R117). -/
def decodeSlotOk (slot : Int) : Bool := inRange 0 5 slot

/-- The operand of SW.APP: a byte (R130, 92 D29). -/
def byteOk (b : Int) : Bool := inRange 0 256 b

/-- An index of LENBUF (R114). -/
def lenIndexOk (i : Int) : Bool := inRange 0 Config.lenBufSize i

/-- A code length: 0 to 15 (R114, R115). -/
def codeLengthOk (v : Int) : Bool := inRange 0 16 v

/-- A status register number: 0 to 5 (R215). -/
def registerOk (n : Int) : Bool := inRange 0 6 n

/-- The lengths LENBUF[base .. base+count). -/
def State.lenSpan (s : State) (base count : Nat) : List Nat := (s.lenBuf.drop base).take count

/-- `base + ReadUint(e)`. -/
def State.addExtra (s : State) (base e : Nat) : Except FaultKind (Nat × State) :=
  match s.readUint e with
  | .ok (v, t) => .ok (base + v, t)
  | .error k => .error k

/-- The number of extra bits of a length symbol 265 to 284 (R69). -/
def lengthExtraBits (sym : Nat) : Nat := (sym - 261) / 4

/-- The least run length of a length symbol 265 to 284 (R69). -/
def lengthBase (sym : Nat) : Nat := ((sym - 265) % 4 + 4) * 2 ^ lengthExtraBits sym + 3

/-- `RunLength(s)` for 257 <= s <= 287 (R69); the extra bits are read as part of it. -/
def State.runLength (s : State) (sym : Nat) : Except FaultKind (Nat × State) :=
  if sym ≤ 264 then .ok (sym - 254, s)
  else if sym ≤ 284 then s.addExtra (lengthBase sym) (lengthExtraBits sym)
  else if sym = 285 then .ok (258, s)
  else .error .reservedLengthSymbol

/-- The number of extra bits of a distance symbol 4 to 29 (R70). -/
def distanceExtraBits (sym : Nat) : Nat := sym / 2 - 1

/-- The least distance of a distance symbol 4 to 29 (R70). -/
def distanceBase (sym : Nat) : Nat := (sym % 2 + 2) * 2 ^ distanceExtraBits sym + 1

/-- `Distance(s)` (R70); the extra bits are read as part of it. -/
def State.distanceOf (s : State) (sym : Nat) : Except FaultKind (Nat × State) :=
  if sym ≤ 3 then .ok (sym + 1, s)
  else if sym ≤ 29 then s.addExtra (distanceBase sym) (distanceExtraBits sym)
  else .error .reservedDistanceSymbol

/-- ORDER[i] (R72). -/
def slotOrder : List Nat := [16, 17, 18, 0, 8, 7, 9, 6, 10, 5, 11, 4, 12, 3, 13, 2, 14, 1, 15]

/-- The slot of CLL that the i-th group read goes to (R72). -/
def slotOfGroup (i : Nat) : Nat := slotOrder.getD i 0

/-- The repeat of a code-length symbol 16, 17 or 18 (R73, R193): its count and the length repeated. The empty-list test
of symbol 16 comes before its extra bits are read (92 D12). -/
def State.repeatOf (s : State) (sym : Nat) : Except FaultKind (Nat × Nat × State) :=
  if sym = 16 then
    if s.lenCnt = 0 then .error .noPreviousLengthToCopy
    else
      match s.addExtra 3 2 with
      | .ok (rep, t) => .ok (rep, s.lenBuf.getD (s.lenCnt - 1) 0, t)
      | .error k => .error k
  else if sym = 17 then
    match s.addExtra 3 3 with
    | .ok (rep, t) => .ok (rep, 0, t)
    | .error k => .error k
  else if sym = 18 then
    match s.addExtra 11 7 with
    | .ok (rep, t) => .ok (rep, 0, t)
    | .error k => .error k
  else .error .corruptSymbol

end Sys2Proof.Machine
end

