-- ==== Sys2Proof/Machine/BitReader.lean ====
section
/-! DEFINITION. The commands of the bit reader (spec/40_bit_reader.md): BR.POS, BR.TRY, BR.RDU. -/

namespace Sys2Proof.Machine

/-- BR.POS: `POS mod 8` (R90). -/
def execBrPos (s : State) : Result := unlessFailed s (.next (s.respondOk (s.pos % 8)))

/-- BR.TRY: the next bit, or NONE at the end of input (R91). -/
def execBrTry (s : State) : Result :=
  unlessFailed s <|
    if 8 * s.inLen ≤ s.pos then .next s.respondNone
    else .next ((s.withPos (s.pos + 1)).respondOk (bitAt s.inp s.pos))

/-- BR.RDU: `ReadUint(n)` (R92). -/
def execBrRdu (n : Int) (s : State) : Result :=
  unlessFailed s <| finish s <|
    match s.readUint n with
    | .ok (v, t) => .ok (t.respondOk v)
    | .error k => .error k

end Sys2Proof.Machine
end

