-- ==== Sys2Proof/Machine/Block.lean ====
section
/-! DEFINITION. What each kind of stream element does (spec/43_block_decoder.md, spec/44_dynamic_tables.md), once for all
the rows of its format, and the run of the block decoder over the elements of a stream (R150, R210). Every operation
here starts with POS behind the element's own bits; extra bits are read by the operation itself. -/

namespace Sys2Proof.Machine

/-! ### Header and stored blocks -/

/-- The block header and the dispatch on TYPE (R151, R152, R154). -/
def State.blockHeader (s : State) (final : Bool) (type : Nat) : Except FaultKind State :=
  match type with
  | 0 => .ok ({ s with final := final, type := 0 }.enter .storedBlock .storedPad)
  | 1 => .ok ({ s with final := final, type := 1, distPresent := true }.enter .fixedHuffmanBlock .symbol)
  | 2 => .ok ({ s with final := final, type := 2 }.enter .dynamicHuffmanBlock .preHlit)
  | _ => .error .reservedBlockType

/-- The padding of a stored block: AlignToByte; the bits may have any value (R48, R153). -/
def State.skipPadding (s : State) : State := s.alignToByte.goto .storedLen

/-- LEN of a stored block (R153). -/
def State.storedLength (s : State) (len : Nat) : State := s.goto (.storedNlen len)

/-- NLEN of a stored block: it must be `LEN ^ 0xFFFF`; with LEN = 0 the block is complete (R153). -/
def State.storedComplement (s : State) (len nlen : Nat) : Except FaultKind State :=
  if len ^^^ 0xFFFF = nlen then .ok (if len = 0 then s.endBlock else s.goto (.storedData len))
  else .error .storedBlockLengthMismatch

/-- One data byte of a stored block, with `left` bytes left to read before it (R153). -/
def State.storedByte (s : State) (left byte : Nat) : State :=
  let t := s.emit (BitVec.ofNat 8 byte)
  if left ≤ 1 then t.endBlock else t.goto (.storedData (left - 1))

/-! ### The preamble of a dynamic block -/

/-- HLIT (R190). -/
def State.setHlit (s : State) (h : Nat) : State := { s with nlit := h + 257, phase := .preHdist }

/-- HDIST (R190). -/
def State.setHdist (s : State) (d : Nat) : State := { s with ndist := d + 1, phase := .preHclen }

/-- HCLEN (R190), and the clearing of CLL (R191). -/
def State.setHclen (s : State) (c : Nat) : State :=
  { s with nclen := c + 4, cll := List.replicate Config.codeLengthSlots 0, phase := .preCll 0 }

/-- The code-length code (R192); the list of code lengths starts empty (R193). -/
def State.buildCodeLengthCode (s : State) : Except FaultKind State :=
  match build s.cll with
  | .ok t => .ok { s with tblClc := some t, lenCnt := 0, phase := .codeLength }
  | .error k => .error k

/-- A 3-bit group of the preamble (R191); after the last one comes R192. -/
def State.setGroup (s : State) (group v : Nat) : Except FaultKind State :=
  let t := { s with cll := s.cll.set (slotOfGroup group) v }
  if group + 1 < s.nclen then .ok (t.goto (.preCll (group + 1))) else t.buildCodeLengthCode

/-- Append one code length to the list LENBUF[0..LEN_CNT) (R193). -/
def State.pushLength (s : State) (v : Nat) : State :=
  { s with lenBuf := s.lenBuf.set s.lenCnt v, lenCnt := s.lenCnt + 1 }

/-- Append `n` equal code lengths (R193). -/
def State.pushLengths (s : State) (n v : Nat) : State :=
  match n with
  | 0 => s
  | n + 1 => (s.pushLength v).pushLengths n v

/-- `NLIT + NDIST`, the number of lengths a preamble asks for (R193). -/
def State.lengthTotal (s : State) : Nat := s.nlit + s.ndist

/-- The lengths from which the distance table is built: a single code of length 1 is padded to 32 entries, the 32nd of
length 1 (R195). -/
def paddedDistanceLengths (d : List Nat) : List Nat :=
  if d.count 1 = 1 ∧ d.countP (fun l => decide (1 < l)) = 0 then (d ++ List.replicate (32 - d.length) 0).set 31 1
  else d

/-- The distance table, or none when the one length is 0 (R195). -/
def State.buildDistanceTable (s : State) : Except FaultKind State :=
  let d := s.lenSpan s.nlit s.ndist
  if s.ndist = 1 ∧ d.getD 0 0 = 0 then .ok { s with tblDynD := none, distPresent := false, phase := .symbol }
  else
    match build (paddedDistanceLengths d) with
    | .ok t => .ok { s with tblDynD := some t, distPresent := true, phase := .symbol }
    | .error k => .error k

/-- The end of the preamble: the test of symbol 256, the literal/length table (R194), then the distance table. -/
def State.buildBlockTables (s : State) : Except FaultKind State :=
  let l := s.lenSpan 0 s.nlit
  if l.getD 256 0 = 0 then .error .missingEndOfBlockSymbol
  else
    match build l with
    | .ok t => { s with tblDynLL := some t }.buildDistanceTable
    | .error k => .error k

/-- After a code-length symbol: the next one while LEN_CNT < total, else the block's tables (R193). -/
def State.afterLengths (s : State) : Except FaultKind State :=
  if s.lenCnt < s.lengthTotal then .ok (s.goto .codeLength) else s.buildBlockTables

/-- A code-length symbol (R193): a length of its own, or a repeat, whose overrun is tested before any length of the run
is stored (92 D13). -/
def State.codeLengthSymbol (s : State) (sym : Nat) : Except FaultKind State :=
  if sym ≤ 15 then (s.pushLength sym).afterLengths
  else
    match s.repeatOf sym with
    | .ok (rep, val, t) =>
      if t.lengthTotal < t.lenCnt + rep then .error .codeLengthOverrun else (t.pushLengths rep val).afterLengths
    | .error k => .error k

/-! ### The symbols of a Huffman block -/

/-- The length part of a back-reference (R158), for a symbol 257 to 287: run length, its range, the presence of a
distance code. The distance symbol is the next element. -/
def State.lengthSymbol (s : State) (sym : Nat) : Except FaultKind State :=
  match s.runLength sym with
  | .error k => .error k
  | .ok (run, t) =>
    if run < 3 ∨ 258 < run then .error .invalidRunLength
    else if t.distPresent then .ok (t.goto (.distance run))
    else .error .emptyDistanceCode

/-- A literal/length symbol (R155 to R159). -/
def State.literalLengthSymbol (s : State) (sym : Nat) : Except FaultKind State :=
  if sym = 256 then .ok s.endBlock
  else if sym < 256 then .ok ((s.emit (BitVec.ofNat 8 sym)).goto .symbol)
  else if sym ≤ 287 then s.lengthSymbol sym
  else .error .corruptSymbol

/-- The distance part of a back-reference (R158): distance, its range, the copy. -/
def State.distanceSymbol (s : State) (run sym : Nat) : Except FaultKind State :=
  match s.distanceOf sym with
  | .error k => .error k
  | .ok (d, t) =>
    if d < 1 ∨ 32768 < d then .error .invalidDistance
    else
      match t.copyBack d run with
      | .ok u => .ok (u.goto .symbol)
      | .error k => .error k

/-- The literal/length table in force: the fixed one in a fixed block, else TBL[3] (R154, R196). An EMPTY slot has no
keys; the block loop never meets one (R57). -/
def State.tableInForce (s : State) : Table :=
  (if s.bdState = .fixedHuffmanBlock then s.tblFixedLL else s.tblDynLL).getD []

/-- The distance table in force (R154, R196). -/
def State.distanceTableInForce (s : State) : Table :=
  (if s.bdState = .fixedHuffmanBlock then s.tblFixedD else s.tblDynD).getD []

/-! ### The run of the block decoder -/

/-- What the block decoder does with the next stream element, straight from the pseudocode: read the element at POS, act
on it. `idle`: nothing. -/
def State.nextElement (s : State) : Except FaultKind State :=
  match s.phase with
  | .idle => .ok s
  | .header =>
    match s.readUint 3 with
    | .ok (w, t) => t.blockHeader (w % 2 == 1) (w / 2)
    | .error k => .error k
  | .storedPad => .ok s.skipPadding
  | .storedLen =>
    match s.readUint 16 with
    | .ok (w, t) => .ok (t.storedLength w)
    | .error k => .error k
  | .storedNlen len =>
    match s.readUint 16 with
    | .ok (w, t) => t.storedComplement len w
    | .error k => .error k
  | .storedData left =>
    match s.readByte with
    | .ok (w, t) => .ok (t.storedByte left w)
    | .error k => .error k
  | .preHlit =>
    match s.readUint 5 with
    | .ok (w, t) => .ok (t.setHlit w)
    | .error k => .error k
  | .preHdist =>
    match s.readUint 5 with
    | .ok (w, t) => .ok (t.setHdist w)
    | .error k => .error k
  | .preHclen =>
    match s.readUint 4 with
    | .ok (w, t) => .ok (t.setHclen w)
    | .error k => .error k
  | .preCll group =>
    match s.readUint 3 with
    | .ok (w, t) => t.setGroup group w
    | .error k => .error k
  | .codeLength =>
    match s.decodeSymbol (s.tblClc.getD []) with
    | .ok (_, sym, t) => t.codeLengthSymbol sym
    | .error k => .error k
  | .symbol =>
    match s.decodeSymbol s.tableInForce with
    | .ok (_, sym, t) => t.literalLengthSymbol sym
    | .error k => .error k
  | .distance run =>
    match s.decodeSymbol s.distanceTableInForce with
    | .ok (_, sym, t) => t.distanceSymbol run sym
    | .error k => .error k

/-- One element of a run; a fault ends the run (R220). -/
def State.elementStep (s : State) : State :=
  match s.nextElement with
  | .ok t => t
  | .error k => s.takeFault k

/-- The block loop of R210, one element after another until the run has ended. `fuel` bounds the elements: each consumes
a bit or is the padding of a stored block (R161), so `runFuel` is enough. -/
def State.runElements (s : State) (fuel : Nat) : State :=
  match fuel with
  | 0 => s
  | fuel + 1 => if s.phase = .idle then s else s.elementStep.runElements fuel

/-- At most two elements for each bit of IN, and the one that meets the end of IN. -/
def State.runFuel (s : State) : Nat := 16 * s.inLen + 1

end Sys2Proof.Machine
end

