-- ==== Sys2Proof/Machine/CodeLength.lean ====
section
/-! DEFINITION. The code-length symbols of a dynamic preamble (spec/44_dynamic_tables.md R193 to R195). -/

namespace Sys2Proof.Machine

/-- A code-length symbol, where the preamble reads one (R193). -/
def codeLengthElement (sym : Nat) (s : State) : Result :=
  inPlace (s.phase == .codeLength) s (s.codeLengthSymbol sym)

/-- CLSYM.0: append the length 0 (R193). -/
def execClsym0 (s : State) : Result := codeLengthElement 0 s

/-- CLSYM.1: append the length 1 (R193). -/
def execClsym1 (s : State) : Result := codeLengthElement 1 s

/-- CLSYM.2: append the length 2 (R193). -/
def execClsym2 (s : State) : Result := codeLengthElement 2 s

/-- CLSYM.3: append the length 3 (R193). -/
def execClsym3 (s : State) : Result := codeLengthElement 3 s

/-- CLSYM.4: append the length 4 (R193). -/
def execClsym4 (s : State) : Result := codeLengthElement 4 s

/-- CLSYM.5: append the length 5 (R193). -/
def execClsym5 (s : State) : Result := codeLengthElement 5 s

/-- CLSYM.6: append the length 6 (R193). -/
def execClsym6 (s : State) : Result := codeLengthElement 6 s

/-- CLSYM.7: append the length 7 (R193). -/
def execClsym7 (s : State) : Result := codeLengthElement 7 s

/-- CLSYM.8: append the length 8 (R193). -/
def execClsym8 (s : State) : Result := codeLengthElement 8 s

/-- CLSYM.9: append the length 9 (R193). -/
def execClsym9 (s : State) : Result := codeLengthElement 9 s

/-- CLSYM.10: append the length 10 (R193). -/
def execClsym10 (s : State) : Result := codeLengthElement 10 s

/-- CLSYM.11: append the length 11 (R193). -/
def execClsym11 (s : State) : Result := codeLengthElement 11 s

/-- CLSYM.12: append the length 12 (R193). -/
def execClsym12 (s : State) : Result := codeLengthElement 12 s

/-- CLSYM.13: append the length 13 (R193). -/
def execClsym13 (s : State) : Result := codeLengthElement 13 s

/-- CLSYM.14: append the length 14 (R193). -/
def execClsym14 (s : State) : Result := codeLengthElement 14 s

/-- CLSYM.15: append the length 15 (R193). -/
def execClsym15 (s : State) : Result := codeLengthElement 15 s

/-- CLSYM.16: repeat the previous length 3 to 6 times (R193). -/
def execClsym16 (s : State) : Result := codeLengthElement 16 s

/-- CLSYM.17: append 3 to 10 zeros (R193). -/
def execClsym17 (s : State) : Result := codeLengthElement 17 s

/-- CLSYM.18: append 11 to 138 zeros (R193). -/
def execClsym18 (s : State) : Result := codeLengthElement 18 s

end Sys2Proof.Machine
end

