-- ==== Sys2Proof/Machine/Distance.lean ====
section
/-! DEFINITION. The distance symbols (spec/30_encoding.md R70, spec/43_block_decoder.md R158). -/

namespace Sys2Proof.Machine

/-- A distance symbol, whatever table it was decoded with, where a back-reference reads one (R158). -/
def distanceElement (sym : Nat) (s : State) : Result :=
  match s.phase with
  | .distance run => finish s (s.distanceSymbol run sym)
  | _ => .fault .elementOutOfPlace

/-- DSYM.0: the distance part of a back-reference (R70, R158). -/
def execDsym0 (s : State) : Result := distanceElement 0 s

/-- DSYM.1: the distance part of a back-reference (R70, R158). -/
def execDsym1 (s : State) : Result := distanceElement 1 s

/-- DSYM.2: the distance part of a back-reference (R70, R158). -/
def execDsym2 (s : State) : Result := distanceElement 2 s

/-- DSYM.3: the distance part of a back-reference (R70, R158). -/
def execDsym3 (s : State) : Result := distanceElement 3 s

/-- DSYM.4: the distance part of a back-reference (R70, R158). -/
def execDsym4 (s : State) : Result := distanceElement 4 s

/-- DSYM.5: the distance part of a back-reference (R70, R158). -/
def execDsym5 (s : State) : Result := distanceElement 5 s

/-- DSYM.6: the distance part of a back-reference (R70, R158). -/
def execDsym6 (s : State) : Result := distanceElement 6 s

/-- DSYM.7: the distance part of a back-reference (R70, R158). -/
def execDsym7 (s : State) : Result := distanceElement 7 s

/-- DSYM.8: the distance part of a back-reference (R70, R158). -/
def execDsym8 (s : State) : Result := distanceElement 8 s

/-- DSYM.9: the distance part of a back-reference (R70, R158). -/
def execDsym9 (s : State) : Result := distanceElement 9 s

/-- DSYM.10: the distance part of a back-reference (R70, R158). -/
def execDsym10 (s : State) : Result := distanceElement 10 s

/-- DSYM.11: the distance part of a back-reference (R70, R158). -/
def execDsym11 (s : State) : Result := distanceElement 11 s

/-- DSYM.12: the distance part of a back-reference (R70, R158). -/
def execDsym12 (s : State) : Result := distanceElement 12 s

/-- DSYM.13: the distance part of a back-reference (R70, R158). -/
def execDsym13 (s : State) : Result := distanceElement 13 s

/-- DSYM.14: the distance part of a back-reference (R70, R158). -/
def execDsym14 (s : State) : Result := distanceElement 14 s

/-- DSYM.15: the distance part of a back-reference (R70, R158). -/
def execDsym15 (s : State) : Result := distanceElement 15 s

/-- DSYM.16: the distance part of a back-reference (R70, R158). -/
def execDsym16 (s : State) : Result := distanceElement 16 s

/-- DSYM.17: the distance part of a back-reference (R70, R158). -/
def execDsym17 (s : State) : Result := distanceElement 17 s

/-- DSYM.18: the distance part of a back-reference (R70, R158). -/
def execDsym18 (s : State) : Result := distanceElement 18 s

/-- DSYM.19: the distance part of a back-reference (R70, R158). -/
def execDsym19 (s : State) : Result := distanceElement 19 s

/-- DSYM.20: the distance part of a back-reference (R70, R158). -/
def execDsym20 (s : State) : Result := distanceElement 20 s

/-- DSYM.21: the distance part of a back-reference (R70, R158). -/
def execDsym21 (s : State) : Result := distanceElement 21 s

/-- DSYM.22: the distance part of a back-reference (R70, R158). -/
def execDsym22 (s : State) : Result := distanceElement 22 s

/-- DSYM.23: the distance part of a back-reference (R70, R158). -/
def execDsym23 (s : State) : Result := distanceElement 23 s

/-- DSYM.24: the distance part of a back-reference (R70, R158). -/
def execDsym24 (s : State) : Result := distanceElement 24 s

/-- DSYM.25: the distance part of a back-reference (R70, R158). -/
def execDsym25 (s : State) : Result := distanceElement 25 s

/-- DSYM.26: the distance part of a back-reference (R70, R158). -/
def execDsym26 (s : State) : Result := distanceElement 26 s

/-- DSYM.27: the distance part of a back-reference (R70, R158). -/
def execDsym27 (s : State) : Result := distanceElement 27 s

/-- DSYM.28: the distance part of a back-reference (R70, R158). -/
def execDsym28 (s : State) : Result := distanceElement 28 s

/-- DSYM.29: the distance part of a back-reference (R70, R158). -/
def execDsym29 (s : State) : Result := distanceElement 29 s

/-- DSYM.30: reserved, ReservedDistanceSymbol (R70, R231). -/
def execDsym30 (s : State) : Result := distanceElement 30 s

/-- DSYM.31: reserved, ReservedDistanceSymbol (R70, R231). -/
def execDsym31 (s : State) : Result := distanceElement 31 s

end Sys2Proof.Machine
end

