-- ==== Sys2Proof/Machine/FixedDistance.lean ====
section
/-! DEFINITION. The codewords of the fixed distance table (spec/30_encoding.md R74). -/

namespace Sys2Proof.Machine

/-- The codeword of a symbol of the fixed distance table, where a fixed block reads one (R74, R154, R158). -/
def fixedDistanceElement (sym : Nat) (s : State) : Result :=
  if s.bdState = .fixedHuffmanBlock then distanceElement sym s else .fault .elementOutOfPlace

/-- FIXED.DSYM.0, codeword 00000 (R74). -/
def execFixedDsym0 (s : State) : Result := fixedDistanceElement 0 s

/-- FIXED.DSYM.1, codeword 00001 (R74). -/
def execFixedDsym1 (s : State) : Result := fixedDistanceElement 1 s

/-- FIXED.DSYM.2, codeword 00010 (R74). -/
def execFixedDsym2 (s : State) : Result := fixedDistanceElement 2 s

/-- FIXED.DSYM.3, codeword 00011 (R74). -/
def execFixedDsym3 (s : State) : Result := fixedDistanceElement 3 s

/-- FIXED.DSYM.4, codeword 00100 (R74). -/
def execFixedDsym4 (s : State) : Result := fixedDistanceElement 4 s

/-- FIXED.DSYM.5, codeword 00101 (R74). -/
def execFixedDsym5 (s : State) : Result := fixedDistanceElement 5 s

/-- FIXED.DSYM.6, codeword 00110 (R74). -/
def execFixedDsym6 (s : State) : Result := fixedDistanceElement 6 s

/-- FIXED.DSYM.7, codeword 00111 (R74). -/
def execFixedDsym7 (s : State) : Result := fixedDistanceElement 7 s

/-- FIXED.DSYM.8, codeword 01000 (R74). -/
def execFixedDsym8 (s : State) : Result := fixedDistanceElement 8 s

/-- FIXED.DSYM.9, codeword 01001 (R74). -/
def execFixedDsym9 (s : State) : Result := fixedDistanceElement 9 s

/-- FIXED.DSYM.10, codeword 01010 (R74). -/
def execFixedDsym10 (s : State) : Result := fixedDistanceElement 10 s

/-- FIXED.DSYM.11, codeword 01011 (R74). -/
def execFixedDsym11 (s : State) : Result := fixedDistanceElement 11 s

/-- FIXED.DSYM.12, codeword 01100 (R74). -/
def execFixedDsym12 (s : State) : Result := fixedDistanceElement 12 s

/-- FIXED.DSYM.13, codeword 01101 (R74). -/
def execFixedDsym13 (s : State) : Result := fixedDistanceElement 13 s

/-- FIXED.DSYM.14, codeword 01110 (R74). -/
def execFixedDsym14 (s : State) : Result := fixedDistanceElement 14 s

/-- FIXED.DSYM.15, codeword 01111 (R74). -/
def execFixedDsym15 (s : State) : Result := fixedDistanceElement 15 s

/-- FIXED.DSYM.16, codeword 10000 (R74). -/
def execFixedDsym16 (s : State) : Result := fixedDistanceElement 16 s

/-- FIXED.DSYM.17, codeword 10001 (R74). -/
def execFixedDsym17 (s : State) : Result := fixedDistanceElement 17 s

/-- FIXED.DSYM.18, codeword 10010 (R74). -/
def execFixedDsym18 (s : State) : Result := fixedDistanceElement 18 s

/-- FIXED.DSYM.19, codeword 10011 (R74). -/
def execFixedDsym19 (s : State) : Result := fixedDistanceElement 19 s

/-- FIXED.DSYM.20, codeword 10100 (R74). -/
def execFixedDsym20 (s : State) : Result := fixedDistanceElement 20 s

/-- FIXED.DSYM.21, codeword 10101 (R74). -/
def execFixedDsym21 (s : State) : Result := fixedDistanceElement 21 s

/-- FIXED.DSYM.22, codeword 10110 (R74). -/
def execFixedDsym22 (s : State) : Result := fixedDistanceElement 22 s

/-- FIXED.DSYM.23, codeword 10111 (R74). -/
def execFixedDsym23 (s : State) : Result := fixedDistanceElement 23 s

/-- FIXED.DSYM.24, codeword 11000 (R74). -/
def execFixedDsym24 (s : State) : Result := fixedDistanceElement 24 s

/-- FIXED.DSYM.25, codeword 11001 (R74). -/
def execFixedDsym25 (s : State) : Result := fixedDistanceElement 25 s

/-- FIXED.DSYM.26, codeword 11010 (R74). -/
def execFixedDsym26 (s : State) : Result := fixedDistanceElement 26 s

/-- FIXED.DSYM.27, codeword 11011 (R74). -/
def execFixedDsym27 (s : State) : Result := fixedDistanceElement 27 s

/-- FIXED.DSYM.28, codeword 11100 (R74). -/
def execFixedDsym28 (s : State) : Result := fixedDistanceElement 28 s

/-- FIXED.DSYM.29, codeword 11101 (R74). -/
def execFixedDsym29 (s : State) : Result := fixedDistanceElement 29 s

/-- FIXED.DSYM.30, codeword 11110 (R74). -/
def execFixedDsym30 (s : State) : Result := fixedDistanceElement 30 s

/-- FIXED.DSYM.31, codeword 11111 (R74). -/
def execFixedDsym31 (s : State) : Result := fixedDistanceElement 31 s

end Sys2Proof.Machine
end

