-- ==== Sys2Proof/Machine/LiteralLength.lean ====
section
/-! DEFINITION. The literal/length symbols (spec/30_encoding.md R69, spec/43_block_decoder.md R155 to R159). -/

namespace Sys2Proof.Machine

/-- A literal/length symbol, whatever table it was decoded with, where a Huffman block reads one (R155). -/
def literalLengthElement (sym : Nat) (s : State) : Result :=
  inPlace (s.phase == .symbol) s (s.literalLengthSymbol sym)

/-- LIT: the byte goes to OUT and the window (R156). -/
def execLit (byte : Nat) (s : State) : Result := literalLengthElement byte s

/-- EOB: end of block (R157). -/
def execEob (s : State) : Result := literalLengthElement 256 s

/-- LSYM.257: the length part of a back-reference (R69, R158). -/
def execLsym257 (s : State) : Result := literalLengthElement 257 s

/-- LSYM.258: the length part of a back-reference (R69, R158). -/
def execLsym258 (s : State) : Result := literalLengthElement 258 s

/-- LSYM.259: the length part of a back-reference (R69, R158). -/
def execLsym259 (s : State) : Result := literalLengthElement 259 s

/-- LSYM.260: the length part of a back-reference (R69, R158). -/
def execLsym260 (s : State) : Result := literalLengthElement 260 s

/-- LSYM.261: the length part of a back-reference (R69, R158). -/
def execLsym261 (s : State) : Result := literalLengthElement 261 s

/-- LSYM.262: the length part of a back-reference (R69, R158). -/
def execLsym262 (s : State) : Result := literalLengthElement 262 s

/-- LSYM.263: the length part of a back-reference (R69, R158). -/
def execLsym263 (s : State) : Result := literalLengthElement 263 s

/-- LSYM.264: the length part of a back-reference (R69, R158). -/
def execLsym264 (s : State) : Result := literalLengthElement 264 s

/-- LSYM.265: the length part of a back-reference (R69, R158). -/
def execLsym265 (s : State) : Result := literalLengthElement 265 s

/-- LSYM.266: the length part of a back-reference (R69, R158). -/
def execLsym266 (s : State) : Result := literalLengthElement 266 s

/-- LSYM.267: the length part of a back-reference (R69, R158). -/
def execLsym267 (s : State) : Result := literalLengthElement 267 s

/-- LSYM.268: the length part of a back-reference (R69, R158). -/
def execLsym268 (s : State) : Result := literalLengthElement 268 s

/-- LSYM.269: the length part of a back-reference (R69, R158). -/
def execLsym269 (s : State) : Result := literalLengthElement 269 s

/-- LSYM.270: the length part of a back-reference (R69, R158). -/
def execLsym270 (s : State) : Result := literalLengthElement 270 s

/-- LSYM.271: the length part of a back-reference (R69, R158). -/
def execLsym271 (s : State) : Result := literalLengthElement 271 s

/-- LSYM.272: the length part of a back-reference (R69, R158). -/
def execLsym272 (s : State) : Result := literalLengthElement 272 s

/-- LSYM.273: the length part of a back-reference (R69, R158). -/
def execLsym273 (s : State) : Result := literalLengthElement 273 s

/-- LSYM.274: the length part of a back-reference (R69, R158). -/
def execLsym274 (s : State) : Result := literalLengthElement 274 s

/-- LSYM.275: the length part of a back-reference (R69, R158). -/
def execLsym275 (s : State) : Result := literalLengthElement 275 s

/-- LSYM.276: the length part of a back-reference (R69, R158). -/
def execLsym276 (s : State) : Result := literalLengthElement 276 s

/-- LSYM.277: the length part of a back-reference (R69, R158). -/
def execLsym277 (s : State) : Result := literalLengthElement 277 s

/-- LSYM.278: the length part of a back-reference (R69, R158). -/
def execLsym278 (s : State) : Result := literalLengthElement 278 s

/-- LSYM.279: the length part of a back-reference (R69, R158). -/
def execLsym279 (s : State) : Result := literalLengthElement 279 s

/-- LSYM.280: the length part of a back-reference (R69, R158). -/
def execLsym280 (s : State) : Result := literalLengthElement 280 s

/-- LSYM.281: the length part of a back-reference (R69, R158). -/
def execLsym281 (s : State) : Result := literalLengthElement 281 s

/-- LSYM.282: the length part of a back-reference (R69, R158). -/
def execLsym282 (s : State) : Result := literalLengthElement 282 s

/-- LSYM.283: the length part of a back-reference (R69, R158). -/
def execLsym283 (s : State) : Result := literalLengthElement 283 s

/-- LSYM.284: the length part of a back-reference (R69, R158). -/
def execLsym284 (s : State) : Result := literalLengthElement 284 s

/-- LSYM.285: the length part of a back-reference (R69, R158). -/
def execLsym285 (s : State) : Result := literalLengthElement 285 s

/-- LSYM.286: reserved, ReservedLengthSymbol (R69, R229). -/
def execLsym286 (s : State) : Result := literalLengthElement 286 s

/-- LSYM.287: reserved, ReservedLengthSymbol (R69, R229). -/
def execLsym287 (s : State) : Result := literalLengthElement 287 s

end Sys2Proof.Machine
end

