-- ==== Sys2Proof/Machine/FixedLiteral.lean ====
section
/-! DEFINITION. The codewords of the fixed literal/length table (spec/30_encoding.md R74). -/

namespace Sys2Proof.Machine

/-- The codeword of a symbol of the fixed literal/length table, where a fixed block reads one (R74, R154, R155). -/
def fixedElement (sym : Nat) (s : State) : Result :=
  if s.bdState = .fixedHuffmanBlock then literalLengthElement sym s else .fault .elementOutOfPlace

/-- FIXED.LIT.0, codeword 00110000 (R74). -/
def execFixedLit0 (s : State) : Result := fixedElement 0 s

/-- FIXED.LIT.1, codeword 00110001 (R74). -/
def execFixedLit1 (s : State) : Result := fixedElement 1 s

/-- FIXED.LIT.2, codeword 00110010 (R74). -/
def execFixedLit2 (s : State) : Result := fixedElement 2 s

/-- FIXED.LIT.3, codeword 00110011 (R74). -/
def execFixedLit3 (s : State) : Result := fixedElement 3 s

/-- FIXED.LIT.4, codeword 00110100 (R74). -/
def execFixedLit4 (s : State) : Result := fixedElement 4 s

/-- FIXED.LIT.5, codeword 00110101 (R74). -/
def execFixedLit5 (s : State) : Result := fixedElement 5 s

/-- FIXED.LIT.6, codeword 00110110 (R74). -/
def execFixedLit6 (s : State) : Result := fixedElement 6 s

/-- FIXED.LIT.7, codeword 00110111 (R74). -/
def execFixedLit7 (s : State) : Result := fixedElement 7 s

/-- FIXED.LIT.8, codeword 00111000 (R74). -/
def execFixedLit8 (s : State) : Result := fixedElement 8 s

/-- FIXED.LIT.9, codeword 00111001 (R74). -/
def execFixedLit9 (s : State) : Result := fixedElement 9 s

/-- FIXED.LIT.10, codeword 00111010 (R74). -/
def execFixedLit10 (s : State) : Result := fixedElement 10 s

/-- FIXED.LIT.11, codeword 00111011 (R74). -/
def execFixedLit11 (s : State) : Result := fixedElement 11 s

/-- FIXED.LIT.12, codeword 00111100 (R74). -/
def execFixedLit12 (s : State) : Result := fixedElement 12 s

/-- FIXED.LIT.13, codeword 00111101 (R74). -/
def execFixedLit13 (s : State) : Result := fixedElement 13 s

/-- FIXED.LIT.14, codeword 00111110 (R74). -/
def execFixedLit14 (s : State) : Result := fixedElement 14 s

/-- FIXED.LIT.15, codeword 00111111 (R74). -/
def execFixedLit15 (s : State) : Result := fixedElement 15 s

/-- FIXED.LIT.16, codeword 01000000 (R74). -/
def execFixedLit16 (s : State) : Result := fixedElement 16 s

/-- FIXED.LIT.17, codeword 01000001 (R74). -/
def execFixedLit17 (s : State) : Result := fixedElement 17 s

/-- FIXED.LIT.18, codeword 01000010 (R74). -/
def execFixedLit18 (s : State) : Result := fixedElement 18 s

/-- FIXED.LIT.19, codeword 01000011 (R74). -/
def execFixedLit19 (s : State) : Result := fixedElement 19 s

/-- FIXED.LIT.20, codeword 01000100 (R74). -/
def execFixedLit20 (s : State) : Result := fixedElement 20 s

/-- FIXED.LIT.21, codeword 01000101 (R74). -/
def execFixedLit21 (s : State) : Result := fixedElement 21 s

/-- FIXED.LIT.22, codeword 01000110 (R74). -/
def execFixedLit22 (s : State) : Result := fixedElement 22 s

/-- FIXED.LIT.23, codeword 01000111 (R74). -/
def execFixedLit23 (s : State) : Result := fixedElement 23 s

/-- FIXED.LIT.24, codeword 01001000 (R74). -/
def execFixedLit24 (s : State) : Result := fixedElement 24 s

/-- FIXED.LIT.25, codeword 01001001 (R74). -/
def execFixedLit25 (s : State) : Result := fixedElement 25 s

/-- FIXED.LIT.26, codeword 01001010 (R74). -/
def execFixedLit26 (s : State) : Result := fixedElement 26 s

/-- FIXED.LIT.27, codeword 01001011 (R74). -/
def execFixedLit27 (s : State) : Result := fixedElement 27 s

/-- FIXED.LIT.28, codeword 01001100 (R74). -/
def execFixedLit28 (s : State) : Result := fixedElement 28 s

/-- FIXED.LIT.29, codeword 01001101 (R74). -/
def execFixedLit29 (s : State) : Result := fixedElement 29 s

/-- FIXED.LIT.30, codeword 01001110 (R74). -/
def execFixedLit30 (s : State) : Result := fixedElement 30 s

/-- FIXED.LIT.31, codeword 01001111 (R74). -/
def execFixedLit31 (s : State) : Result := fixedElement 31 s

/-- FIXED.LIT.32, codeword 01010000 (R74). -/
def execFixedLit32 (s : State) : Result := fixedElement 32 s

/-- FIXED.LIT.33, codeword 01010001 (R74). -/
def execFixedLit33 (s : State) : Result := fixedElement 33 s

/-- FIXED.LIT.34, codeword 01010010 (R74). -/
def execFixedLit34 (s : State) : Result := fixedElement 34 s

/-- FIXED.LIT.35, codeword 01010011 (R74). -/
def execFixedLit35 (s : State) : Result := fixedElement 35 s

/-- FIXED.LIT.36, codeword 01010100 (R74). -/
def execFixedLit36 (s : State) : Result := fixedElement 36 s

/-- FIXED.LIT.37, codeword 01010101 (R74). -/
def execFixedLit37 (s : State) : Result := fixedElement 37 s

/-- FIXED.LIT.38, codeword 01010110 (R74). -/
def execFixedLit38 (s : State) : Result := fixedElement 38 s

/-- FIXED.LIT.39, codeword 01010111 (R74). -/
def execFixedLit39 (s : State) : Result := fixedElement 39 s

/-- FIXED.LIT.40, codeword 01011000 (R74). -/
def execFixedLit40 (s : State) : Result := fixedElement 40 s

/-- FIXED.LIT.41, codeword 01011001 (R74). -/
def execFixedLit41 (s : State) : Result := fixedElement 41 s

/-- FIXED.LIT.42, codeword 01011010 (R74). -/
def execFixedLit42 (s : State) : Result := fixedElement 42 s

/-- FIXED.LIT.43, codeword 01011011 (R74). -/
def execFixedLit43 (s : State) : Result := fixedElement 43 s

/-- FIXED.LIT.44, codeword 01011100 (R74). -/
def execFixedLit44 (s : State) : Result := fixedElement 44 s

/-- FIXED.LIT.45, codeword 01011101 (R74). -/
def execFixedLit45 (s : State) : Result := fixedElement 45 s

/-- FIXED.LIT.46, codeword 01011110 (R74). -/
def execFixedLit46 (s : State) : Result := fixedElement 46 s

/-- FIXED.LIT.47, codeword 01011111 (R74). -/
def execFixedLit47 (s : State) : Result := fixedElement 47 s

/-- FIXED.LIT.48, codeword 01100000 (R74). -/
def execFixedLit48 (s : State) : Result := fixedElement 48 s

/-- FIXED.LIT.49, codeword 01100001 (R74). -/
def execFixedLit49 (s : State) : Result := fixedElement 49 s

/-- FIXED.LIT.50, codeword 01100010 (R74). -/
def execFixedLit50 (s : State) : Result := fixedElement 50 s

/-- FIXED.LIT.51, codeword 01100011 (R74). -/
def execFixedLit51 (s : State) : Result := fixedElement 51 s

/-- FIXED.LIT.52, codeword 01100100 (R74). -/
def execFixedLit52 (s : State) : Result := fixedElement 52 s

/-- FIXED.LIT.53, codeword 01100101 (R74). -/
def execFixedLit53 (s : State) : Result := fixedElement 53 s

/-- FIXED.LIT.54, codeword 01100110 (R74). -/
def execFixedLit54 (s : State) : Result := fixedElement 54 s

/-- FIXED.LIT.55, codeword 01100111 (R74). -/
def execFixedLit55 (s : State) : Result := fixedElement 55 s

/-- FIXED.LIT.56, codeword 01101000 (R74). -/
def execFixedLit56 (s : State) : Result := fixedElement 56 s

/-- FIXED.LIT.57, codeword 01101001 (R74). -/
def execFixedLit57 (s : State) : Result := fixedElement 57 s

/-- FIXED.LIT.58, codeword 01101010 (R74). -/
def execFixedLit58 (s : State) : Result := fixedElement 58 s

/-- FIXED.LIT.59, codeword 01101011 (R74). -/
def execFixedLit59 (s : State) : Result := fixedElement 59 s

/-- FIXED.LIT.60, codeword 01101100 (R74). -/
def execFixedLit60 (s : State) : Result := fixedElement 60 s

/-- FIXED.LIT.61, codeword 01101101 (R74). -/
def execFixedLit61 (s : State) : Result := fixedElement 61 s

/-- FIXED.LIT.62, codeword 01101110 (R74). -/
def execFixedLit62 (s : State) : Result := fixedElement 62 s

/-- FIXED.LIT.63, codeword 01101111 (R74). -/
def execFixedLit63 (s : State) : Result := fixedElement 63 s

/-- FIXED.LIT.64, codeword 01110000 (R74). -/
def execFixedLit64 (s : State) : Result := fixedElement 64 s

/-- FIXED.LIT.65, codeword 01110001 (R74). -/
def execFixedLit65 (s : State) : Result := fixedElement 65 s

/-- FIXED.LIT.66, codeword 01110010 (R74). -/
def execFixedLit66 (s : State) : Result := fixedElement 66 s

/-- FIXED.LIT.67, codeword 01110011 (R74). -/
def execFixedLit67 (s : State) : Result := fixedElement 67 s

/-- FIXED.LIT.68, codeword 01110100 (R74). -/
def execFixedLit68 (s : State) : Result := fixedElement 68 s

/-- FIXED.LIT.69, codeword 01110101 (R74). -/
def execFixedLit69 (s : State) : Result := fixedElement 69 s

/-- FIXED.LIT.70, codeword 01110110 (R74). -/
def execFixedLit70 (s : State) : Result := fixedElement 70 s

/-- FIXED.LIT.71, codeword 01110111 (R74). -/
def execFixedLit71 (s : State) : Result := fixedElement 71 s

/-- FIXED.LIT.72, codeword 01111000 (R74). -/
def execFixedLit72 (s : State) : Result := fixedElement 72 s

/-- FIXED.LIT.73, codeword 01111001 (R74). -/
def execFixedLit73 (s : State) : Result := fixedElement 73 s

/-- FIXED.LIT.74, codeword 01111010 (R74). -/
def execFixedLit74 (s : State) : Result := fixedElement 74 s

/-- FIXED.LIT.75, codeword 01111011 (R74). -/
def execFixedLit75 (s : State) : Result := fixedElement 75 s

/-- FIXED.LIT.76, codeword 01111100 (R74). -/
def execFixedLit76 (s : State) : Result := fixedElement 76 s

/-- FIXED.LIT.77, codeword 01111101 (R74). -/
def execFixedLit77 (s : State) : Result := fixedElement 77 s

/-- FIXED.LIT.78, codeword 01111110 (R74). -/
def execFixedLit78 (s : State) : Result := fixedElement 78 s

/-- FIXED.LIT.79, codeword 01111111 (R74). -/
def execFixedLit79 (s : State) : Result := fixedElement 79 s

/-- FIXED.LIT.80, codeword 10000000 (R74). -/
def execFixedLit80 (s : State) : Result := fixedElement 80 s

/-- FIXED.LIT.81, codeword 10000001 (R74). -/
def execFixedLit81 (s : State) : Result := fixedElement 81 s

/-- FIXED.LIT.82, codeword 10000010 (R74). -/
def execFixedLit82 (s : State) : Result := fixedElement 82 s

/-- FIXED.LIT.83, codeword 10000011 (R74). -/
def execFixedLit83 (s : State) : Result := fixedElement 83 s

/-- FIXED.LIT.84, codeword 10000100 (R74). -/
def execFixedLit84 (s : State) : Result := fixedElement 84 s

/-- FIXED.LIT.85, codeword 10000101 (R74). -/
def execFixedLit85 (s : State) : Result := fixedElement 85 s

/-- FIXED.LIT.86, codeword 10000110 (R74). -/
def execFixedLit86 (s : State) : Result := fixedElement 86 s

/-- FIXED.LIT.87, codeword 10000111 (R74). -/
def execFixedLit87 (s : State) : Result := fixedElement 87 s

/-- FIXED.LIT.88, codeword 10001000 (R74). -/
def execFixedLit88 (s : State) : Result := fixedElement 88 s

/-- FIXED.LIT.89, codeword 10001001 (R74). -/
def execFixedLit89 (s : State) : Result := fixedElement 89 s

/-- FIXED.LIT.90, codeword 10001010 (R74). -/
def execFixedLit90 (s : State) : Result := fixedElement 90 s

/-- FIXED.LIT.91, codeword 10001011 (R74). -/
def execFixedLit91 (s : State) : Result := fixedElement 91 s

/-- FIXED.LIT.92, codeword 10001100 (R74). -/
def execFixedLit92 (s : State) : Result := fixedElement 92 s

/-- FIXED.LIT.93, codeword 10001101 (R74). -/
def execFixedLit93 (s : State) : Result := fixedElement 93 s

/-- FIXED.LIT.94, codeword 10001110 (R74). -/
def execFixedLit94 (s : State) : Result := fixedElement 94 s

/-- FIXED.LIT.95, codeword 10001111 (R74). -/
def execFixedLit95 (s : State) : Result := fixedElement 95 s

/-- FIXED.LIT.96, codeword 10010000 (R74). -/
def execFixedLit96 (s : State) : Result := fixedElement 96 s

/-- FIXED.LIT.97, codeword 10010001 (R74). -/
def execFixedLit97 (s : State) : Result := fixedElement 97 s

/-- FIXED.LIT.98, codeword 10010010 (R74). -/
def execFixedLit98 (s : State) : Result := fixedElement 98 s

/-- FIXED.LIT.99, codeword 10010011 (R74). -/
def execFixedLit99 (s : State) : Result := fixedElement 99 s

/-- FIXED.LIT.100, codeword 10010100 (R74). -/
def execFixedLit100 (s : State) : Result := fixedElement 100 s

/-- FIXED.LIT.101, codeword 10010101 (R74). -/
def execFixedLit101 (s : State) : Result := fixedElement 101 s

/-- FIXED.LIT.102, codeword 10010110 (R74). -/
def execFixedLit102 (s : State) : Result := fixedElement 102 s

/-- FIXED.LIT.103, codeword 10010111 (R74). -/
def execFixedLit103 (s : State) : Result := fixedElement 103 s

/-- FIXED.LIT.104, codeword 10011000 (R74). -/
def execFixedLit104 (s : State) : Result := fixedElement 104 s

/-- FIXED.LIT.105, codeword 10011001 (R74). -/
def execFixedLit105 (s : State) : Result := fixedElement 105 s

/-- FIXED.LIT.106, codeword 10011010 (R74). -/
def execFixedLit106 (s : State) : Result := fixedElement 106 s

/-- FIXED.LIT.107, codeword 10011011 (R74). -/
def execFixedLit107 (s : State) : Result := fixedElement 107 s

/-- FIXED.LIT.108, codeword 10011100 (R74). -/
def execFixedLit108 (s : State) : Result := fixedElement 108 s

/-- FIXED.LIT.109, codeword 10011101 (R74). -/
def execFixedLit109 (s : State) : Result := fixedElement 109 s

/-- FIXED.LIT.110, codeword 10011110 (R74). -/
def execFixedLit110 (s : State) : Result := fixedElement 110 s

/-- FIXED.LIT.111, codeword 10011111 (R74). -/
def execFixedLit111 (s : State) : Result := fixedElement 111 s

/-- FIXED.LIT.112, codeword 10100000 (R74). -/
def execFixedLit112 (s : State) : Result := fixedElement 112 s

/-- FIXED.LIT.113, codeword 10100001 (R74). -/
def execFixedLit113 (s : State) : Result := fixedElement 113 s

/-- FIXED.LIT.114, codeword 10100010 (R74). -/
def execFixedLit114 (s : State) : Result := fixedElement 114 s

/-- FIXED.LIT.115, codeword 10100011 (R74). -/
def execFixedLit115 (s : State) : Result := fixedElement 115 s

/-- FIXED.LIT.116, codeword 10100100 (R74). -/
def execFixedLit116 (s : State) : Result := fixedElement 116 s

/-- FIXED.LIT.117, codeword 10100101 (R74). -/
def execFixedLit117 (s : State) : Result := fixedElement 117 s

/-- FIXED.LIT.118, codeword 10100110 (R74). -/
def execFixedLit118 (s : State) : Result := fixedElement 118 s

/-- FIXED.LIT.119, codeword 10100111 (R74). -/
def execFixedLit119 (s : State) : Result := fixedElement 119 s

/-- FIXED.LIT.120, codeword 10101000 (R74). -/
def execFixedLit120 (s : State) : Result := fixedElement 120 s

/-- FIXED.LIT.121, codeword 10101001 (R74). -/
def execFixedLit121 (s : State) : Result := fixedElement 121 s

/-- FIXED.LIT.122, codeword 10101010 (R74). -/
def execFixedLit122 (s : State) : Result := fixedElement 122 s

/-- FIXED.LIT.123, codeword 10101011 (R74). -/
def execFixedLit123 (s : State) : Result := fixedElement 123 s

/-- FIXED.LIT.124, codeword 10101100 (R74). -/
def execFixedLit124 (s : State) : Result := fixedElement 124 s

/-- FIXED.LIT.125, codeword 10101101 (R74). -/
def execFixedLit125 (s : State) : Result := fixedElement 125 s

/-- FIXED.LIT.126, codeword 10101110 (R74). -/
def execFixedLit126 (s : State) : Result := fixedElement 126 s

/-- FIXED.LIT.127, codeword 10101111 (R74). -/
def execFixedLit127 (s : State) : Result := fixedElement 127 s

/-- FIXED.LIT.128, codeword 10110000 (R74). -/
def execFixedLit128 (s : State) : Result := fixedElement 128 s

/-- FIXED.LIT.129, codeword 10110001 (R74). -/
def execFixedLit129 (s : State) : Result := fixedElement 129 s

/-- FIXED.LIT.130, codeword 10110010 (R74). -/
def execFixedLit130 (s : State) : Result := fixedElement 130 s

/-- FIXED.LIT.131, codeword 10110011 (R74). -/
def execFixedLit131 (s : State) : Result := fixedElement 131 s

/-- FIXED.LIT.132, codeword 10110100 (R74). -/
def execFixedLit132 (s : State) : Result := fixedElement 132 s

/-- FIXED.LIT.133, codeword 10110101 (R74). -/
def execFixedLit133 (s : State) : Result := fixedElement 133 s

/-- FIXED.LIT.134, codeword 10110110 (R74). -/
def execFixedLit134 (s : State) : Result := fixedElement 134 s

/-- FIXED.LIT.135, codeword 10110111 (R74). -/
def execFixedLit135 (s : State) : Result := fixedElement 135 s

/-- FIXED.LIT.136, codeword 10111000 (R74). -/
def execFixedLit136 (s : State) : Result := fixedElement 136 s

/-- FIXED.LIT.137, codeword 10111001 (R74). -/
def execFixedLit137 (s : State) : Result := fixedElement 137 s

/-- FIXED.LIT.138, codeword 10111010 (R74). -/
def execFixedLit138 (s : State) : Result := fixedElement 138 s

/-- FIXED.LIT.139, codeword 10111011 (R74). -/
def execFixedLit139 (s : State) : Result := fixedElement 139 s

/-- FIXED.LIT.140, codeword 10111100 (R74). -/
def execFixedLit140 (s : State) : Result := fixedElement 140 s

/-- FIXED.LIT.141, codeword 10111101 (R74). -/
def execFixedLit141 (s : State) : Result := fixedElement 141 s

/-- FIXED.LIT.142, codeword 10111110 (R74). -/
def execFixedLit142 (s : State) : Result := fixedElement 142 s

/-- FIXED.LIT.143, codeword 10111111 (R74). -/
def execFixedLit143 (s : State) : Result := fixedElement 143 s

/-- FIXED.LIT.144, codeword 110010000 (R74). -/
def execFixedLit144 (s : State) : Result := fixedElement 144 s

/-- FIXED.LIT.145, codeword 110010001 (R74). -/
def execFixedLit145 (s : State) : Result := fixedElement 145 s

/-- FIXED.LIT.146, codeword 110010010 (R74). -/
def execFixedLit146 (s : State) : Result := fixedElement 146 s

/-- FIXED.LIT.147, codeword 110010011 (R74). -/
def execFixedLit147 (s : State) : Result := fixedElement 147 s

/-- FIXED.LIT.148, codeword 110010100 (R74). -/
def execFixedLit148 (s : State) : Result := fixedElement 148 s

/-- FIXED.LIT.149, codeword 110010101 (R74). -/
def execFixedLit149 (s : State) : Result := fixedElement 149 s

/-- FIXED.LIT.150, codeword 110010110 (R74). -/
def execFixedLit150 (s : State) : Result := fixedElement 150 s

/-- FIXED.LIT.151, codeword 110010111 (R74). -/
def execFixedLit151 (s : State) : Result := fixedElement 151 s

/-- FIXED.LIT.152, codeword 110011000 (R74). -/
def execFixedLit152 (s : State) : Result := fixedElement 152 s

/-- FIXED.LIT.153, codeword 110011001 (R74). -/
def execFixedLit153 (s : State) : Result := fixedElement 153 s

/-- FIXED.LIT.154, codeword 110011010 (R74). -/
def execFixedLit154 (s : State) : Result := fixedElement 154 s

/-- FIXED.LIT.155, codeword 110011011 (R74). -/
def execFixedLit155 (s : State) : Result := fixedElement 155 s

/-- FIXED.LIT.156, codeword 110011100 (R74). -/
def execFixedLit156 (s : State) : Result := fixedElement 156 s

/-- FIXED.LIT.157, codeword 110011101 (R74). -/
def execFixedLit157 (s : State) : Result := fixedElement 157 s

/-- FIXED.LIT.158, codeword 110011110 (R74). -/
def execFixedLit158 (s : State) : Result := fixedElement 158 s

/-- FIXED.LIT.159, codeword 110011111 (R74). -/
def execFixedLit159 (s : State) : Result := fixedElement 159 s

/-- FIXED.LIT.160, codeword 110100000 (R74). -/
def execFixedLit160 (s : State) : Result := fixedElement 160 s

/-- FIXED.LIT.161, codeword 110100001 (R74). -/
def execFixedLit161 (s : State) : Result := fixedElement 161 s

/-- FIXED.LIT.162, codeword 110100010 (R74). -/
def execFixedLit162 (s : State) : Result := fixedElement 162 s

/-- FIXED.LIT.163, codeword 110100011 (R74). -/
def execFixedLit163 (s : State) : Result := fixedElement 163 s

/-- FIXED.LIT.164, codeword 110100100 (R74). -/
def execFixedLit164 (s : State) : Result := fixedElement 164 s

/-- FIXED.LIT.165, codeword 110100101 (R74). -/
def execFixedLit165 (s : State) : Result := fixedElement 165 s

/-- FIXED.LIT.166, codeword 110100110 (R74). -/
def execFixedLit166 (s : State) : Result := fixedElement 166 s

/-- FIXED.LIT.167, codeword 110100111 (R74). -/
def execFixedLit167 (s : State) : Result := fixedElement 167 s

/-- FIXED.LIT.168, codeword 110101000 (R74). -/
def execFixedLit168 (s : State) : Result := fixedElement 168 s

/-- FIXED.LIT.169, codeword 110101001 (R74). -/
def execFixedLit169 (s : State) : Result := fixedElement 169 s

/-- FIXED.LIT.170, codeword 110101010 (R74). -/
def execFixedLit170 (s : State) : Result := fixedElement 170 s

/-- FIXED.LIT.171, codeword 110101011 (R74). -/
def execFixedLit171 (s : State) : Result := fixedElement 171 s

/-- FIXED.LIT.172, codeword 110101100 (R74). -/
def execFixedLit172 (s : State) : Result := fixedElement 172 s

/-- FIXED.LIT.173, codeword 110101101 (R74). -/
def execFixedLit173 (s : State) : Result := fixedElement 173 s

/-- FIXED.LIT.174, codeword 110101110 (R74). -/
def execFixedLit174 (s : State) : Result := fixedElement 174 s

/-- FIXED.LIT.175, codeword 110101111 (R74). -/
def execFixedLit175 (s : State) : Result := fixedElement 175 s

/-- FIXED.LIT.176, codeword 110110000 (R74). -/
def execFixedLit176 (s : State) : Result := fixedElement 176 s

/-- FIXED.LIT.177, codeword 110110001 (R74). -/
def execFixedLit177 (s : State) : Result := fixedElement 177 s

/-- FIXED.LIT.178, codeword 110110010 (R74). -/
def execFixedLit178 (s : State) : Result := fixedElement 178 s

/-- FIXED.LIT.179, codeword 110110011 (R74). -/
def execFixedLit179 (s : State) : Result := fixedElement 179 s

/-- FIXED.LIT.180, codeword 110110100 (R74). -/
def execFixedLit180 (s : State) : Result := fixedElement 180 s

/-- FIXED.LIT.181, codeword 110110101 (R74). -/
def execFixedLit181 (s : State) : Result := fixedElement 181 s

/-- FIXED.LIT.182, codeword 110110110 (R74). -/
def execFixedLit182 (s : State) : Result := fixedElement 182 s

/-- FIXED.LIT.183, codeword 110110111 (R74). -/
def execFixedLit183 (s : State) : Result := fixedElement 183 s

/-- FIXED.LIT.184, codeword 110111000 (R74). -/
def execFixedLit184 (s : State) : Result := fixedElement 184 s

/-- FIXED.LIT.185, codeword 110111001 (R74). -/
def execFixedLit185 (s : State) : Result := fixedElement 185 s

/-- FIXED.LIT.186, codeword 110111010 (R74). -/
def execFixedLit186 (s : State) : Result := fixedElement 186 s

/-- FIXED.LIT.187, codeword 110111011 (R74). -/
def execFixedLit187 (s : State) : Result := fixedElement 187 s

/-- FIXED.LIT.188, codeword 110111100 (R74). -/
def execFixedLit188 (s : State) : Result := fixedElement 188 s

/-- FIXED.LIT.189, codeword 110111101 (R74). -/
def execFixedLit189 (s : State) : Result := fixedElement 189 s

/-- FIXED.LIT.190, codeword 110111110 (R74). -/
def execFixedLit190 (s : State) : Result := fixedElement 190 s

/-- FIXED.LIT.191, codeword 110111111 (R74). -/
def execFixedLit191 (s : State) : Result := fixedElement 191 s

/-- FIXED.LIT.192, codeword 111000000 (R74). -/
def execFixedLit192 (s : State) : Result := fixedElement 192 s

/-- FIXED.LIT.193, codeword 111000001 (R74). -/
def execFixedLit193 (s : State) : Result := fixedElement 193 s

/-- FIXED.LIT.194, codeword 111000010 (R74). -/
def execFixedLit194 (s : State) : Result := fixedElement 194 s

/-- FIXED.LIT.195, codeword 111000011 (R74). -/
def execFixedLit195 (s : State) : Result := fixedElement 195 s

/-- FIXED.LIT.196, codeword 111000100 (R74). -/
def execFixedLit196 (s : State) : Result := fixedElement 196 s

/-- FIXED.LIT.197, codeword 111000101 (R74). -/
def execFixedLit197 (s : State) : Result := fixedElement 197 s

/-- FIXED.LIT.198, codeword 111000110 (R74). -/
def execFixedLit198 (s : State) : Result := fixedElement 198 s

/-- FIXED.LIT.199, codeword 111000111 (R74). -/
def execFixedLit199 (s : State) : Result := fixedElement 199 s

/-- FIXED.LIT.200, codeword 111001000 (R74). -/
def execFixedLit200 (s : State) : Result := fixedElement 200 s

/-- FIXED.LIT.201, codeword 111001001 (R74). -/
def execFixedLit201 (s : State) : Result := fixedElement 201 s

/-- FIXED.LIT.202, codeword 111001010 (R74). -/
def execFixedLit202 (s : State) : Result := fixedElement 202 s

/-- FIXED.LIT.203, codeword 111001011 (R74). -/
def execFixedLit203 (s : State) : Result := fixedElement 203 s

/-- FIXED.LIT.204, codeword 111001100 (R74). -/
def execFixedLit204 (s : State) : Result := fixedElement 204 s

/-- FIXED.LIT.205, codeword 111001101 (R74). -/
def execFixedLit205 (s : State) : Result := fixedElement 205 s

/-- FIXED.LIT.206, codeword 111001110 (R74). -/
def execFixedLit206 (s : State) : Result := fixedElement 206 s

/-- FIXED.LIT.207, codeword 111001111 (R74). -/
def execFixedLit207 (s : State) : Result := fixedElement 207 s

/-- FIXED.LIT.208, codeword 111010000 (R74). -/
def execFixedLit208 (s : State) : Result := fixedElement 208 s

/-- FIXED.LIT.209, codeword 111010001 (R74). -/
def execFixedLit209 (s : State) : Result := fixedElement 209 s

/-- FIXED.LIT.210, codeword 111010010 (R74). -/
def execFixedLit210 (s : State) : Result := fixedElement 210 s

/-- FIXED.LIT.211, codeword 111010011 (R74). -/
def execFixedLit211 (s : State) : Result := fixedElement 211 s

/-- FIXED.LIT.212, codeword 111010100 (R74). -/
def execFixedLit212 (s : State) : Result := fixedElement 212 s

/-- FIXED.LIT.213, codeword 111010101 (R74). -/
def execFixedLit213 (s : State) : Result := fixedElement 213 s

/-- FIXED.LIT.214, codeword 111010110 (R74). -/
def execFixedLit214 (s : State) : Result := fixedElement 214 s

/-- FIXED.LIT.215, codeword 111010111 (R74). -/
def execFixedLit215 (s : State) : Result := fixedElement 215 s

/-- FIXED.LIT.216, codeword 111011000 (R74). -/
def execFixedLit216 (s : State) : Result := fixedElement 216 s

/-- FIXED.LIT.217, codeword 111011001 (R74). -/
def execFixedLit217 (s : State) : Result := fixedElement 217 s

/-- FIXED.LIT.218, codeword 111011010 (R74). -/
def execFixedLit218 (s : State) : Result := fixedElement 218 s

/-- FIXED.LIT.219, codeword 111011011 (R74). -/
def execFixedLit219 (s : State) : Result := fixedElement 219 s

/-- FIXED.LIT.220, codeword 111011100 (R74). -/
def execFixedLit220 (s : State) : Result := fixedElement 220 s

/-- FIXED.LIT.221, codeword 111011101 (R74). -/
def execFixedLit221 (s : State) : Result := fixedElement 221 s

/-- FIXED.LIT.222, codeword 111011110 (R74). -/
def execFixedLit222 (s : State) : Result := fixedElement 222 s

/-- FIXED.LIT.223, codeword 111011111 (R74). -/
def execFixedLit223 (s : State) : Result := fixedElement 223 s

/-- FIXED.LIT.224, codeword 111100000 (R74). -/
def execFixedLit224 (s : State) : Result := fixedElement 224 s

/-- FIXED.LIT.225, codeword 111100001 (R74). -/
def execFixedLit225 (s : State) : Result := fixedElement 225 s

/-- FIXED.LIT.226, codeword 111100010 (R74). -/
def execFixedLit226 (s : State) : Result := fixedElement 226 s

/-- FIXED.LIT.227, codeword 111100011 (R74). -/
def execFixedLit227 (s : State) : Result := fixedElement 227 s

/-- FIXED.LIT.228, codeword 111100100 (R74). -/
def execFixedLit228 (s : State) : Result := fixedElement 228 s

/-- FIXED.LIT.229, codeword 111100101 (R74). -/
def execFixedLit229 (s : State) : Result := fixedElement 229 s

/-- FIXED.LIT.230, codeword 111100110 (R74). -/
def execFixedLit230 (s : State) : Result := fixedElement 230 s

/-- FIXED.LIT.231, codeword 111100111 (R74). -/
def execFixedLit231 (s : State) : Result := fixedElement 231 s

/-- FIXED.LIT.232, codeword 111101000 (R74). -/
def execFixedLit232 (s : State) : Result := fixedElement 232 s

/-- FIXED.LIT.233, codeword 111101001 (R74). -/
def execFixedLit233 (s : State) : Result := fixedElement 233 s

/-- FIXED.LIT.234, codeword 111101010 (R74). -/
def execFixedLit234 (s : State) : Result := fixedElement 234 s

/-- FIXED.LIT.235, codeword 111101011 (R74). -/
def execFixedLit235 (s : State) : Result := fixedElement 235 s

/-- FIXED.LIT.236, codeword 111101100 (R74). -/
def execFixedLit236 (s : State) : Result := fixedElement 236 s

/-- FIXED.LIT.237, codeword 111101101 (R74). -/
def execFixedLit237 (s : State) : Result := fixedElement 237 s

/-- FIXED.LIT.238, codeword 111101110 (R74). -/
def execFixedLit238 (s : State) : Result := fixedElement 238 s

/-- FIXED.LIT.239, codeword 111101111 (R74). -/
def execFixedLit239 (s : State) : Result := fixedElement 239 s

/-- FIXED.LIT.240, codeword 111110000 (R74). -/
def execFixedLit240 (s : State) : Result := fixedElement 240 s

/-- FIXED.LIT.241, codeword 111110001 (R74). -/
def execFixedLit241 (s : State) : Result := fixedElement 241 s

/-- FIXED.LIT.242, codeword 111110010 (R74). -/
def execFixedLit242 (s : State) : Result := fixedElement 242 s

/-- FIXED.LIT.243, codeword 111110011 (R74). -/
def execFixedLit243 (s : State) : Result := fixedElement 243 s

/-- FIXED.LIT.244, codeword 111110100 (R74). -/
def execFixedLit244 (s : State) : Result := fixedElement 244 s

/-- FIXED.LIT.245, codeword 111110101 (R74). -/
def execFixedLit245 (s : State) : Result := fixedElement 245 s

/-- FIXED.LIT.246, codeword 111110110 (R74). -/
def execFixedLit246 (s : State) : Result := fixedElement 246 s

/-- FIXED.LIT.247, codeword 111110111 (R74). -/
def execFixedLit247 (s : State) : Result := fixedElement 247 s

/-- FIXED.LIT.248, codeword 111111000 (R74). -/
def execFixedLit248 (s : State) : Result := fixedElement 248 s

/-- FIXED.LIT.249, codeword 111111001 (R74). -/
def execFixedLit249 (s : State) : Result := fixedElement 249 s

/-- FIXED.LIT.250, codeword 111111010 (R74). -/
def execFixedLit250 (s : State) : Result := fixedElement 250 s

/-- FIXED.LIT.251, codeword 111111011 (R74). -/
def execFixedLit251 (s : State) : Result := fixedElement 251 s

/-- FIXED.LIT.252, codeword 111111100 (R74). -/
def execFixedLit252 (s : State) : Result := fixedElement 252 s

/-- FIXED.LIT.253, codeword 111111101 (R74). -/
def execFixedLit253 (s : State) : Result := fixedElement 253 s

/-- FIXED.LIT.254, codeword 111111110 (R74). -/
def execFixedLit254 (s : State) : Result := fixedElement 254 s

/-- FIXED.LIT.255, codeword 111111111 (R74). -/
def execFixedLit255 (s : State) : Result := fixedElement 255 s

/-- FIXED.EOB, codeword 0000000 (R74). -/
def execFixedEob (s : State) : Result := fixedElement 256 s

/-- FIXED.LSYM.257, codeword 0000001 (R74). -/
def execFixedLsym257 (s : State) : Result := fixedElement 257 s

/-- FIXED.LSYM.258, codeword 0000010 (R74). -/
def execFixedLsym258 (s : State) : Result := fixedElement 258 s

/-- FIXED.LSYM.259, codeword 0000011 (R74). -/
def execFixedLsym259 (s : State) : Result := fixedElement 259 s

/-- FIXED.LSYM.260, codeword 0000100 (R74). -/
def execFixedLsym260 (s : State) : Result := fixedElement 260 s

/-- FIXED.LSYM.261, codeword 0000101 (R74). -/
def execFixedLsym261 (s : State) : Result := fixedElement 261 s

/-- FIXED.LSYM.262, codeword 0000110 (R74). -/
def execFixedLsym262 (s : State) : Result := fixedElement 262 s

/-- FIXED.LSYM.263, codeword 0000111 (R74). -/
def execFixedLsym263 (s : State) : Result := fixedElement 263 s

/-- FIXED.LSYM.264, codeword 0001000 (R74). -/
def execFixedLsym264 (s : State) : Result := fixedElement 264 s

/-- FIXED.LSYM.265, codeword 0001001 (R74). -/
def execFixedLsym265 (s : State) : Result := fixedElement 265 s

/-- FIXED.LSYM.266, codeword 0001010 (R74). -/
def execFixedLsym266 (s : State) : Result := fixedElement 266 s

/-- FIXED.LSYM.267, codeword 0001011 (R74). -/
def execFixedLsym267 (s : State) : Result := fixedElement 267 s

/-- FIXED.LSYM.268, codeword 0001100 (R74). -/
def execFixedLsym268 (s : State) : Result := fixedElement 268 s

/-- FIXED.LSYM.269, codeword 0001101 (R74). -/
def execFixedLsym269 (s : State) : Result := fixedElement 269 s

/-- FIXED.LSYM.270, codeword 0001110 (R74). -/
def execFixedLsym270 (s : State) : Result := fixedElement 270 s

/-- FIXED.LSYM.271, codeword 0001111 (R74). -/
def execFixedLsym271 (s : State) : Result := fixedElement 271 s

/-- FIXED.LSYM.272, codeword 0010000 (R74). -/
def execFixedLsym272 (s : State) : Result := fixedElement 272 s

/-- FIXED.LSYM.273, codeword 0010001 (R74). -/
def execFixedLsym273 (s : State) : Result := fixedElement 273 s

/-- FIXED.LSYM.274, codeword 0010010 (R74). -/
def execFixedLsym274 (s : State) : Result := fixedElement 274 s

/-- FIXED.LSYM.275, codeword 0010011 (R74). -/
def execFixedLsym275 (s : State) : Result := fixedElement 275 s

/-- FIXED.LSYM.276, codeword 0010100 (R74). -/
def execFixedLsym276 (s : State) : Result := fixedElement 276 s

/-- FIXED.LSYM.277, codeword 0010101 (R74). -/
def execFixedLsym277 (s : State) : Result := fixedElement 277 s

/-- FIXED.LSYM.278, codeword 0010110 (R74). -/
def execFixedLsym278 (s : State) : Result := fixedElement 278 s

/-- FIXED.LSYM.279, codeword 0010111 (R74). -/
def execFixedLsym279 (s : State) : Result := fixedElement 279 s

/-- FIXED.LSYM.280, codeword 11000000 (R74). -/
def execFixedLsym280 (s : State) : Result := fixedElement 280 s

/-- FIXED.LSYM.281, codeword 11000001 (R74). -/
def execFixedLsym281 (s : State) : Result := fixedElement 281 s

/-- FIXED.LSYM.282, codeword 11000010 (R74). -/
def execFixedLsym282 (s : State) : Result := fixedElement 282 s

/-- FIXED.LSYM.283, codeword 11000011 (R74). -/
def execFixedLsym283 (s : State) : Result := fixedElement 283 s

/-- FIXED.LSYM.284, codeword 11000100 (R74). -/
def execFixedLsym284 (s : State) : Result := fixedElement 284 s

/-- FIXED.LSYM.285, codeword 11000101 (R74). -/
def execFixedLsym285 (s : State) : Result := fixedElement 285 s

/-- FIXED.LSYM.286, codeword 11000110 (R74). -/
def execFixedLsym286 (s : State) : Result := fixedElement 286 s

/-- FIXED.LSYM.287, codeword 11000111 (R74). -/
def execFixedLsym287 (s : State) : Result := fixedElement 287 s

end Sys2Proof.Machine
end

