-- ==== Sys2Proof/Machine/Huffman.lean ====
section
/-! DEFINITION. The commands of the canonical Huffman unit (spec/41_huffman.md): HC.BLD, HC.DEC, LB.SET. -/

namespace Sys2Proof.Machine

/-- HC.BLD: build slot 2, 3 or 4 from LENBUF[base .. base+count) (R116). On a fault the slot is not written. -/
def execHcBld (slot base count : Int) (s : State) : Result :=
  unlessFailed s <|
    if buildSlotOk slot && spanOk base count then
      finish s <|
        match build (s.lenSpan base.toNat count.toNat) with
        | .ok t => .ok ((s.setTable slot.toNat (some t)).respondOk 0)
        | .error k => .error k
    else .next s.refuse

/-- HC.DEC: decode one symbol with the table in a slot; refused when the slot is EMPTY (R117). -/
def execHcDec (slot : Int) (s : State) : Result :=
  unlessFailed s <|
    if decodeSlotOk slot then
      match s.table slot.toNat with
      | none => .next s.refuse
      | some tbl =>
        finish s <|
          match s.decodeSymbol tbl with
          | .ok (_, sym, t) => .ok (t.respondOk sym)
          | .error k => .error k
    else .next s.refuse

/-- LB.SET: write one entry of LENBUF (R114). -/
def execLbSet (index value : Int) (s : State) : Result :=
  unlessFailed s <|
    if lenIndexOk index && codeLengthOk value then
      .next ({ s with lenBuf := s.lenBuf.set index.toNat value.toNat }.respondOk 0)
    else .next s.refuse

end Sys2Proof.Machine
end

