-- ==== Sys2Proof/Machine/Preamble.lean ====
section
/-! DEFINITION. The counts and the 3-bit groups of a dynamic preamble (spec/44_dynamic_tables.md R190 to R192). -/

namespace Sys2Proof.Machine

/-- PRE.HLIT: `NLIT = h + 257` (R190). -/
def execPreHlit (h : Nat) (s : State) : Result := inPlace (s.phase == .preHlit) s (.ok (s.setHlit h))

/-- PRE.HDIST: `NDIST = d + 1` (R190). -/
def execPreHdist (d : Nat) (s : State) : Result := inPlace (s.phase == .preHdist) s (.ok (s.setHdist d))

/-- PRE.HCLEN: `NCLEN = c + 4` (R190). -/
def execPreHclen (c : Nat) (s : State) : Result := inPlace (s.phase == .preHclen) s (.ok (s.setHclen c))

/-- The group with the given index, where that group is the next one of the preamble (R191). -/
def preambleGroup (group v : Nat) (s : State) : Result :=
  inPlace (s.phase == .preCll group) s (s.setGroup group v)

/-- PRE.CLL.0: `CLL[16] = v` (R191, R72). -/
def execPreCll0 (v : Nat) (s : State) : Result := preambleGroup 0 v s

/-- PRE.CLL.1: `CLL[17] = v` (R191, R72). -/
def execPreCll1 (v : Nat) (s : State) : Result := preambleGroup 1 v s

/-- PRE.CLL.2: `CLL[18] = v` (R191, R72). -/
def execPreCll2 (v : Nat) (s : State) : Result := preambleGroup 2 v s

/-- PRE.CLL.3: `CLL[0] = v` (R191, R72). -/
def execPreCll3 (v : Nat) (s : State) : Result := preambleGroup 3 v s

/-- PRE.CLL.4: `CLL[8] = v` (R191, R72). -/
def execPreCll4 (v : Nat) (s : State) : Result := preambleGroup 4 v s

/-- PRE.CLL.5: `CLL[7] = v` (R191, R72). -/
def execPreCll5 (v : Nat) (s : State) : Result := preambleGroup 5 v s

/-- PRE.CLL.6: `CLL[9] = v` (R191, R72). -/
def execPreCll6 (v : Nat) (s : State) : Result := preambleGroup 6 v s

/-- PRE.CLL.7: `CLL[6] = v` (R191, R72). -/
def execPreCll7 (v : Nat) (s : State) : Result := preambleGroup 7 v s

/-- PRE.CLL.8: `CLL[10] = v` (R191, R72). -/
def execPreCll8 (v : Nat) (s : State) : Result := preambleGroup 8 v s

/-- PRE.CLL.9: `CLL[5] = v` (R191, R72). -/
def execPreCll9 (v : Nat) (s : State) : Result := preambleGroup 9 v s

/-- PRE.CLL.10: `CLL[11] = v` (R191, R72). -/
def execPreCll10 (v : Nat) (s : State) : Result := preambleGroup 10 v s

/-- PRE.CLL.11: `CLL[4] = v` (R191, R72). -/
def execPreCll11 (v : Nat) (s : State) : Result := preambleGroup 11 v s

/-- PRE.CLL.12: `CLL[12] = v` (R191, R72). -/
def execPreCll12 (v : Nat) (s : State) : Result := preambleGroup 12 v s

/-- PRE.CLL.13: `CLL[3] = v` (R191, R72). -/
def execPreCll13 (v : Nat) (s : State) : Result := preambleGroup 13 v s

/-- PRE.CLL.14: `CLL[13] = v` (R191, R72). -/
def execPreCll14 (v : Nat) (s : State) : Result := preambleGroup 14 v s

/-- PRE.CLL.15: `CLL[2] = v` (R191, R72). -/
def execPreCll15 (v : Nat) (s : State) : Result := preambleGroup 15 v s

/-- PRE.CLL.16: `CLL[14] = v` (R191, R72). -/
def execPreCll16 (v : Nat) (s : State) : Result := preambleGroup 16 v s

/-- PRE.CLL.17: `CLL[1] = v` (R191, R72). -/
def execPreCll17 (v : Nat) (s : State) : Result := preambleGroup 17 v s

/-- PRE.CLL.18: `CLL[15] = v` (R191, R72). -/
def execPreCll18 (v : Nat) (s : State) : Result := preambleGroup 18 v s

end Sys2Proof.Machine
end

