-- ==== Sys2Proof/Machine/Stored.lean ====
section
/-! DEFINITION. The block headers (spec/43_block_decoder.md R151, R152) and the fields of a stored block (R153). -/

namespace Sys2Proof.Machine

/-- HDR.STORED: a header of type 0 (R151, R152). -/
def execHdrStored (final : Bool) (s : State) : Result :=
  inPlace (s.phase == .header) s (s.blockHeader final 0)

/-- HDR.FIXED: a header of type 1 (R151, R152, R154). -/
def execHdrFixed (final : Bool) (s : State) : Result :=
  inPlace (s.phase == .header) s (s.blockHeader final 1)

/-- HDR.DYNAMIC: a header of type 2 (R151, R152). -/
def execHdrDynamic (final : Bool) (s : State) : Result :=
  inPlace (s.phase == .header) s (s.blockHeader final 2)

/-- HDR.RESERVED: a header of type 3 raises ReservedBlockType, whatever FINAL is (R152, R226). -/
def execHdrReserved (final : Bool) (s : State) : Result :=
  inPlace (s.phase == .header) s (s.blockHeader final 3)

/-- STORED.PAD: AlignToByte (R153). -/
def execStoredPad (s : State) : Result := inPlace (s.phase == .storedPad) s (.ok s.skipPadding)

/-- STORED.LEN (R153). -/
def execStoredLen (len : Nat) (s : State) : Result := inPlace (s.phase == .storedLen) s (.ok (s.storedLength len))

/-- STORED.NLEN: must be the complement of LEN (R153, R227). -/
def execStoredNlen (nlen : Nat) (s : State) : Result :=
  match s.phase with
  | .storedNlen len => finish s (s.storedComplement len nlen)
  | _ => .fault .elementOutOfPlace

/-- STORED.DATA: one data byte to OUT and the window (R153, R156). -/
def execStoredData (byte : Nat) (s : State) : Result :=
  match s.phase with
  | .storedData left => .next (s.storedByte left byte)
  | _ => .fault .elementOutOfPlace

end Sys2Proof.Machine
end

