-- ==== Sys2Proof/Machine/Flags.lean ====
section
/-! DEFINITION. The conditions computed from state (spec/10_state.md R26), the status registers (R27), the
numbers of a response's status (spec/30_encoding.md R63) and what the host may read of OUT (spec/45_top_level.md R212). -/

namespace Sys2Proof.Machine

/-- EOF: POS = 8N, and nothing else (R12, R26). -/
def State.eof (s : State) : Bool := s.pos == 8 * s.inLen

/-- ALIGNED: POS mod 8 = 0 (R26). -/
def State.aligned (s : State) : Bool := s.pos % 8 == 0

/-- FAULTED: ERR != 0 (R26). -/
def State.faulted (s : State) : Bool := s.err.isSome

/-- The codes of STATE (R20). -/
def BdState.code (b : BdState) : Nat :=
  match b with
  | .readingBlockHeader => 0
  | .storedBlock => 1
  | .fixedHuffmanBlock => 2
  | .dynamicHuffmanBlock => 3
  | .done => 4
  | .failed => 5

/-- The status of a response as its field `status[1:0]` (R63). -/
def Status.code (st : Status) : BitVec 2 :=
  match st with
  | .ok => 0
  | .none => 1
  | .fault => 2
  | .refused => 3

/-- ERR as a number, 0 for no fault (R24). -/
def State.errCode (s : State) : Nat :=
  match s.err with
  | none => 0
  | some k => k.code

/-- STATUS[7:0]: STATE in [2:0], ERR in [7:3] (R27). -/
def State.statusLow (s : State) : Nat := s.bdState.code + 8 * s.errCode

/-- Register 0, STATUS: with FINAL in [8], TYPE in [10:9], DIST_PRESENT in [11], EOF in [12], ALIGNED in [13] (R27). -/
def State.statusRegister (s : State) : Nat :=
  s.statusLow + 256 * s.final.toNat + 512 * (s.type % 4) + 2048 * s.distPresent.toNat + 4096 * s.eof.toNat
    + 8192 * s.aligned.toNat

/-- Register 4, WIN_STAT: CUR in [14:0], CNT in [31:16] (R27). -/
def State.winStatRegister (s : State) : Nat := s.cur % 2 ^ 15 + 2 ^ 16 * (s.cnt % 2 ^ 16)

/-- Register 5, DYN: NLIT in [8:0], NDIST in [14:9], NCLEN in [19:15], LEN_CNT in [28:20] (R27). -/
def State.dynRegister (s : State) : Nat :=
  s.nlit % 2 ^ 9 + 2 ^ 9 * (s.ndist % 2 ^ 6) + 2 ^ 15 * (s.nclen % 2 ^ 5) + 2 ^ 20 * (s.lenCnt % 2 ^ 9)

/-- The status registers 0 to 5; unlisted bits read 0 (R27). Registers 1 to 3 show the low 32 bits (92 D17, D18). -/
def State.register (s : State) (n : Nat) : Nat :=
  match n with
  | 0 => s.statusRegister
  | 1 => s.inLen % 2 ^ 32
  | 2 => s.pos % 2 ^ 32
  | 3 => s.out.length % 2 ^ 32
  | 4 => s.winStatRegister
  | 5 => s.dynRegister
  | _ => 0

/-- The status registers in FAILED: only STATUS[7:0] is defined, every other listed field is a free value, unlisted bits
read 0 (R27, R215, notes/assumptions/5.md). -/
def State.registerFailed (s : State) (n : Nat) : Nat :=
  match n with
  | 0 => s.statusLow % 2 ^ 8 + 2 ^ 8 * (s.freeNat .statusField 0 % 2 ^ 6)
  | 1 => s.freeNat .statusField 1 % 2 ^ 32
  | 2 => s.freeNat .statusField 2 % 2 ^ 32
  | 3 => s.freeNat .statusField 3 % 2 ^ 32
  | 4 => s.freeNat .statusField 4 % 2 ^ 15 + 2 ^ 16 * (s.freeNat .statusField 5 % 2 ^ 16)
  | 5 => s.freeNat .statusField 6 % 2 ^ 29
  | _ => 0

/-- What the host may read of OUT: the whole of it from an OK of BD.RUN until the next command that writes it, else
nothing (R212, R240, notes/assumptions/8.md). -/
def State.hostReadOut (s : State) : Option (List Byte) := if s.outReady then some s.out else none

end Sys2Proof.Machine
end

