-- ==== Sys2Proof/Machine/TopLevel.lean ====
section
/-! DEFINITION. RESET (spec/70_reset_and_hazards.md R260), BD.RUN and CSR.RD (spec/45_top_level.md R210, R215), and the
reserved operation codes (spec/60_exceptions.md R244). -/

namespace Sys2Proof.Machine

/-- RESET: every element takes its reset value; accepted in every state, responds OK with value 0 (R260). -/
def execReset (s : State) : Result := .next (s.restart.respondOk 0)

/-- BD.RUN: PerCallInit, then the whole stream in IN, to Done or to FAILED (R210). It runs to completion within the one
command (R3, R61). -/
def execBdRun (s : State) : Result :=
  unlessFailed s (.next (s.perCallInit.runElements s.runFuel))

/-- CSR.RD: a status register; accepted in FAILED too, where only STATUS[7:0] is defined and the next read meets fresh
free values (R215). -/
def execCsrRd (number : Int) (s : State) : Result :=
  if registerOk number then
    if s.bdState = .failed then .next { s.respondOk (s.registerFailed number.toNat) with free := s.free + 1 }
    else .next (s.respondOk (s.register number.toNat))
  else .next s.refuse

/-- Operation code 11 selects nothing: refused (R244). -/
def execReserved11 (s : State) : Result := .next s.refuse

/-- Operation code 12 selects nothing: refused (R244). -/
def execReserved12 (s : State) : Result := .next s.refuse

/-- Operation code 13 selects nothing: refused (R244). -/
def execReserved13 (s : State) : Result := .next s.refuse

/-- Operation code 14 selects nothing: refused (R244). -/
def execReserved14 (s : State) : Result := .next s.refuse

/-- Operation code 15 selects nothing: refused (R244). -/
def execReserved15 (s : State) : Result := .next s.refuse

end Sys2Proof.Machine
end

