-- ==== Sys2Proof/Machine/Window.lean ====
section
/-! DEFINITION. The commands of the sliding window (spec/42_sliding_window.md): SW.APP, SW.CPY. -/

namespace Sys2Proof.Machine

/-- SW.APP: append a byte to the window, not to OUT; an operand that is no byte is refused (R130, 92 D29). -/
def execSwApp (byte : Int) (s : State) : Result :=
  unlessFailed s <|
    if byteOk byte then .next ((s.append (BitVec.ofInt 8 byte)).respondOk 0) else .next s.refuse

/-- SW.CPY: CopyBack(distance, length) (R131). It writes OUT, so OUT may no longer be read as a result (R212). -/
def execSwCpy (distance length : Int) (s : State) : Result :=
  unlessFailed s <| finish s <|
    match s.copyBack distance length with
    | .ok t => .ok ({ t with outReady := false }.respondOk 0)
    | .error k => .error k

end Sys2Proof.Machine
end

