-- ==== Sys2Proof/Machine/Dispatch.lean ====
section
/-! DEFINITION. What each instruction does: one arm per constructor of Instr, each a direct call of its meaning. -/

namespace Sys2Proof.Machine

def exec (i : Instr) (s : State) : Host.Outcome State Fault Refusal :=
  match i with
  -- CMD
  | .reset => Sys2Proof.Machine.execReset s
  | .brPos => Sys2Proof.Machine.execBrPos s
  | .brTry => Sys2Proof.Machine.execBrTry s
  | .brRdu n => Sys2Proof.Machine.execBrRdu n s
  | .hcBld slot base count => Sys2Proof.Machine.execHcBld slot base count s
  | .hcDec slot => Sys2Proof.Machine.execHcDec slot s
  | .swApp byte => Sys2Proof.Machine.execSwApp byte s
  | .swCpy distance length => Sys2Proof.Machine.execSwCpy distance length s
  | .bdRun => Sys2Proof.Machine.execBdRun s
  | .lbSet index value => Sys2Proof.Machine.execLbSet index value s
  | .csrRd number => Sys2Proof.Machine.execCsrRd number s
  | .reserved11 => Sys2Proof.Machine.execReserved11 s
  | .reserved12 => Sys2Proof.Machine.execReserved12 s
  | .reserved13 => Sys2Proof.Machine.execReserved13 s
  | .reserved14 => Sys2Proof.Machine.execReserved14 s
  | .reserved15 => Sys2Proof.Machine.execReserved15 s
  -- HDR
  | .hdrStored final => Sys2Proof.Machine.execHdrStored final s
  | .hdrFixed final => Sys2Proof.Machine.execHdrFixed final s
  | .hdrDynamic final => Sys2Proof.Machine.execHdrDynamic final s
  | .hdrReserved final => Sys2Proof.Machine.execHdrReserved final s
  -- STORED
  | .storedPad => Sys2Proof.Machine.execStoredPad s
  | .storedLen len => Sys2Proof.Machine.execStoredLen len s
  | .storedNlen nlen => Sys2Proof.Machine.execStoredNlen nlen s
  | .storedData byte => Sys2Proof.Machine.execStoredData byte s
  -- LL_SYMBOL
  | .lit byte => Sys2Proof.Machine.execLit byte s
  | .eob => Sys2Proof.Machine.execEob s
  | .lsym257 => Sys2Proof.Machine.execLsym257 s
  | .lsym258 => Sys2Proof.Machine.execLsym258 s
  | .lsym259 => Sys2Proof.Machine.execLsym259 s
  | .lsym260 => Sys2Proof.Machine.execLsym260 s
  | .lsym261 => Sys2Proof.Machine.execLsym261 s
  | .lsym262 => Sys2Proof.Machine.execLsym262 s
  | .lsym263 => Sys2Proof.Machine.execLsym263 s
  | .lsym264 => Sys2Proof.Machine.execLsym264 s
  | .lsym265 => Sys2Proof.Machine.execLsym265 s
  | .lsym266 => Sys2Proof.Machine.execLsym266 s
  | .lsym267 => Sys2Proof.Machine.execLsym267 s
  | .lsym268 => Sys2Proof.Machine.execLsym268 s
  | .lsym269 => Sys2Proof.Machine.execLsym269 s
  | .lsym270 => Sys2Proof.Machine.execLsym270 s
  | .lsym271 => Sys2Proof.Machine.execLsym271 s
  | .lsym272 => Sys2Proof.Machine.execLsym272 s
  | .lsym273 => Sys2Proof.Machine.execLsym273 s
  | .lsym274 => Sys2Proof.Machine.execLsym274 s
  | .lsym275 => Sys2Proof.Machine.execLsym275 s
  | .lsym276 => Sys2Proof.Machine.execLsym276 s
  | .lsym277 => Sys2Proof.Machine.execLsym277 s
  | .lsym278 => Sys2Proof.Machine.execLsym278 s
  | .lsym279 => Sys2Proof.Machine.execLsym279 s
  | .lsym280 => Sys2Proof.Machine.execLsym280 s
  | .lsym281 => Sys2Proof.Machine.execLsym281 s
  | .lsym282 => Sys2Proof.Machine.execLsym282 s
  | .lsym283 => Sys2Proof.Machine.execLsym283 s
  | .lsym284 => Sys2Proof.Machine.execLsym284 s
  | .lsym285 => Sys2Proof.Machine.execLsym285 s
  | .lsym286 => Sys2Proof.Machine.execLsym286 s
  | .lsym287 => Sys2Proof.Machine.execLsym287 s
  -- D_SYMBOL
  | .dsym0 => Sys2Proof.Machine.execDsym0 s
  | .dsym1 => Sys2Proof.Machine.execDsym1 s
  | .dsym2 => Sys2Proof.Machine.execDsym2 s
  | .dsym3 => Sys2Proof.Machine.execDsym3 s
  | .dsym4 => Sys2Proof.Machine.execDsym4 s
  | .dsym5 => Sys2Proof.Machine.execDsym5 s
  | .dsym6 => Sys2Proof.Machine.execDsym6 s
  | .dsym7 => Sys2Proof.Machine.execDsym7 s
  | .dsym8 => Sys2Proof.Machine.execDsym8 s
  | .dsym9 => Sys2Proof.Machine.execDsym9 s
  | .dsym10 => Sys2Proof.Machine.execDsym10 s
  | .dsym11 => Sys2Proof.Machine.execDsym11 s
  | .dsym12 => Sys2Proof.Machine.execDsym12 s
  | .dsym13 => Sys2Proof.Machine.execDsym13 s
  | .dsym14 => Sys2Proof.Machine.execDsym14 s
  | .dsym15 => Sys2Proof.Machine.execDsym15 s
  | .dsym16 => Sys2Proof.Machine.execDsym16 s
  | .dsym17 => Sys2Proof.Machine.execDsym17 s
  | .dsym18 => Sys2Proof.Machine.execDsym18 s
  | .dsym19 => Sys2Proof.Machine.execDsym19 s
  | .dsym20 => Sys2Proof.Machine.execDsym20 s
  | .dsym21 => Sys2Proof.Machine.execDsym21 s
  | .dsym22 => Sys2Proof.Machine.execDsym22 s
  | .dsym23 => Sys2Proof.Machine.execDsym23 s
  | .dsym24 => Sys2Proof.Machine.execDsym24 s
  | .dsym25 => Sys2Proof.Machine.execDsym25 s
  | .dsym26 => Sys2Proof.Machine.execDsym26 s
  | .dsym27 => Sys2Proof.Machine.execDsym27 s
  | .dsym28 => Sys2Proof.Machine.execDsym28 s
  | .dsym29 => Sys2Proof.Machine.execDsym29 s
  | .dsym30 => Sys2Proof.Machine.execDsym30 s
  | .dsym31 => Sys2Proof.Machine.execDsym31 s
  -- PREAMBLE
  | .preHlit h => Sys2Proof.Machine.execPreHlit h s
  | .preHdist d => Sys2Proof.Machine.execPreHdist d s
  | .preHclen c => Sys2Proof.Machine.execPreHclen c s
  | .preCll0 v => Sys2Proof.Machine.execPreCll0 v s
  | .preCll1 v => Sys2Proof.Machine.execPreCll1 v s
  | .preCll2 v => Sys2Proof.Machine.execPreCll2 v s
  | .preCll3 v => Sys2Proof.Machine.execPreCll3 v s
  | .preCll4 v => Sys2Proof.Machine.execPreCll4 v s
  | .preCll5 v => Sys2Proof.Machine.execPreCll5 v s
  | .preCll6 v => Sys2Proof.Machine.execPreCll6 v s
  | .preCll7 v => Sys2Proof.Machine.execPreCll7 v s
  | .preCll8 v => Sys2Proof.Machine.execPreCll8 v s
  | .preCll9 v => Sys2Proof.Machine.execPreCll9 v s
  | .preCll10 v => Sys2Proof.Machine.execPreCll10 v s
  | .preCll11 v => Sys2Proof.Machine.execPreCll11 v s
  | .preCll12 v => Sys2Proof.Machine.execPreCll12 v s
  | .preCll13 v => Sys2Proof.Machine.execPreCll13 v s
  | .preCll14 v => Sys2Proof.Machine.execPreCll14 v s
  | .preCll15 v => Sys2Proof.Machine.execPreCll15 v s
  | .preCll16 v => Sys2Proof.Machine.execPreCll16 v s
  | .preCll17 v => Sys2Proof.Machine.execPreCll17 v s
  | .preCll18 v => Sys2Proof.Machine.execPreCll18 v s
  -- CL_SYMBOL
  | .clsym0 => Sys2Proof.Machine.execClsym0 s
  | .clsym1 => Sys2Proof.Machine.execClsym1 s
  | .clsym2 => Sys2Proof.Machine.execClsym2 s
  | .clsym3 => Sys2Proof.Machine.execClsym3 s
  | .clsym4 => Sys2Proof.Machine.execClsym4 s
  | .clsym5 => Sys2Proof.Machine.execClsym5 s
  | .clsym6 => Sys2Proof.Machine.execClsym6 s
  | .clsym7 => Sys2Proof.Machine.execClsym7 s
  | .clsym8 => Sys2Proof.Machine.execClsym8 s
  | .clsym9 => Sys2Proof.Machine.execClsym9 s
  | .clsym10 => Sys2Proof.Machine.execClsym10 s
  | .clsym11 => Sys2Proof.Machine.execClsym11 s
  | .clsym12 => Sys2Proof.Machine.execClsym12 s
  | .clsym13 => Sys2Proof.Machine.execClsym13 s
  | .clsym14 => Sys2Proof.Machine.execClsym14 s
  | .clsym15 => Sys2Proof.Machine.execClsym15 s
  | .clsym16 => Sys2Proof.Machine.execClsym16 s
  | .clsym17 => Sys2Proof.Machine.execClsym17 s
  | .clsym18 => Sys2Proof.Machine.execClsym18 s
  -- FIXED_LL
  | .fixedLit0 => Sys2Proof.Machine.execFixedLit0 s
  | .fixedLit1 => Sys2Proof.Machine.execFixedLit1 s
  | .fixedLit2 => Sys2Proof.Machine.execFixedLit2 s
  | .fixedLit3 => Sys2Proof.Machine.execFixedLit3 s
  | .fixedLit4 => Sys2Proof.Machine.execFixedLit4 s
  | .fixedLit5 => Sys2Proof.Machine.execFixedLit5 s
  | .fixedLit6 => Sys2Proof.Machine.execFixedLit6 s
  | .fixedLit7 => Sys2Proof.Machine.execFixedLit7 s
  | .fixedLit8 => Sys2Proof.Machine.execFixedLit8 s
  | .fixedLit9 => Sys2Proof.Machine.execFixedLit9 s
  | .fixedLit10 => Sys2Proof.Machine.execFixedLit10 s
  | .fixedLit11 => Sys2Proof.Machine.execFixedLit11 s
  | .fixedLit12 => Sys2Proof.Machine.execFixedLit12 s
  | .fixedLit13 => Sys2Proof.Machine.execFixedLit13 s
  | .fixedLit14 => Sys2Proof.Machine.execFixedLit14 s
  | .fixedLit15 => Sys2Proof.Machine.execFixedLit15 s
  | .fixedLit16 => Sys2Proof.Machine.execFixedLit16 s
  | .fixedLit17 => Sys2Proof.Machine.execFixedLit17 s
  | .fixedLit18 => Sys2Proof.Machine.execFixedLit18 s
  | .fixedLit19 => Sys2Proof.Machine.execFixedLit19 s
  | .fixedLit20 => Sys2Proof.Machine.execFixedLit20 s
  | .fixedLit21 => Sys2Proof.Machine.execFixedLit21 s
  | .fixedLit22 => Sys2Proof.Machine.execFixedLit22 s
  | .fixedLit23 => Sys2Proof.Machine.execFixedLit23 s
  | .fixedLit24 => Sys2Proof.Machine.execFixedLit24 s
  | .fixedLit25 => Sys2Proof.Machine.execFixedLit25 s
  | .fixedLit26 => Sys2Proof.Machine.execFixedLit26 s
  | .fixedLit27 => Sys2Proof.Machine.execFixedLit27 s
  | .fixedLit28 => Sys2Proof.Machine.execFixedLit28 s
  | .fixedLit29 => Sys2Proof.Machine.execFixedLit29 s
  | .fixedLit30 => Sys2Proof.Machine.execFixedLit30 s
  | .fixedLit31 => Sys2Proof.Machine.execFixedLit31 s
  | .fixedLit32 => Sys2Proof.Machine.execFixedLit32 s
  | .fixedLit33 => Sys2Proof.Machine.execFixedLit33 s
  | .fixedLit34 => Sys2Proof.Machine.execFixedLit34 s
  | .fixedLit35 => Sys2Proof.Machine.execFixedLit35 s
  | .fixedLit36 => Sys2Proof.Machine.execFixedLit36 s
  | .fixedLit37 => Sys2Proof.Machine.execFixedLit37 s
  | .fixedLit38 => Sys2Proof.Machine.execFixedLit38 s
  | .fixedLit39 => Sys2Proof.Machine.execFixedLit39 s
  | .fixedLit40 => Sys2Proof.Machine.execFixedLit40 s
  | .fixedLit41 => Sys2Proof.Machine.execFixedLit41 s
  | .fixedLit42 => Sys2Proof.Machine.execFixedLit42 s
  | .fixedLit43 => Sys2Proof.Machine.execFixedLit43 s
  | .fixedLit44 => Sys2Proof.Machine.execFixedLit44 s
  | .fixedLit45 => Sys2Proof.Machine.execFixedLit45 s
  | .fixedLit46 => Sys2Proof.Machine.execFixedLit46 s
  | .fixedLit47 => Sys2Proof.Machine.execFixedLit47 s
  | .fixedLit48 => Sys2Proof.Machine.execFixedLit48 s
  | .fixedLit49 => Sys2Proof.Machine.execFixedLit49 s
  | .fixedLit50 => Sys2Proof.Machine.execFixedLit50 s
  | .fixedLit51 => Sys2Proof.Machine.execFixedLit51 s
  | .fixedLit52 => Sys2Proof.Machine.execFixedLit52 s
  | .fixedLit53 => Sys2Proof.Machine.execFixedLit53 s
  | .fixedLit54 => Sys2Proof.Machine.execFixedLit54 s
  | .fixedLit55 => Sys2Proof.Machine.execFixedLit55 s
  | .fixedLit56 => Sys2Proof.Machine.execFixedLit56 s
  | .fixedLit57 => Sys2Proof.Machine.execFixedLit57 s
  | .fixedLit58 => Sys2Proof.Machine.execFixedLit58 s
  | .fixedLit59 => Sys2Proof.Machine.execFixedLit59 s
  | .fixedLit60 => Sys2Proof.Machine.execFixedLit60 s
  | .fixedLit61 => Sys2Proof.Machine.execFixedLit61 s
  | .fixedLit62 => Sys2Proof.Machine.execFixedLit62 s
  | .fixedLit63 => Sys2Proof.Machine.execFixedLit63 s
  | .fixedLit64 => Sys2Proof.Machine.execFixedLit64 s
  | .fixedLit65 => Sys2Proof.Machine.execFixedLit65 s
  | .fixedLit66 => Sys2Proof.Machine.execFixedLit66 s
  | .fixedLit67 => Sys2Proof.Machine.execFixedLit67 s
  | .fixedLit68 => Sys2Proof.Machine.execFixedLit68 s
  | .fixedLit69 => Sys2Proof.Machine.execFixedLit69 s
  | .fixedLit70 => Sys2Proof.Machine.execFixedLit70 s
  | .fixedLit71 => Sys2Proof.Machine.execFixedLit71 s
  | .fixedLit72 => Sys2Proof.Machine.execFixedLit72 s
  | .fixedLit73 => Sys2Proof.Machine.execFixedLit73 s
  | .fixedLit74 => Sys2Proof.Machine.execFixedLit74 s
  | .fixedLit75 => Sys2Proof.Machine.execFixedLit75 s
  | .fixedLit76 => Sys2Proof.Machine.execFixedLit76 s
  | .fixedLit77 => Sys2Proof.Machine.execFixedLit77 s
  | .fixedLit78 => Sys2Proof.Machine.execFixedLit78 s
  | .fixedLit79 => Sys2Proof.Machine.execFixedLit79 s
  | .fixedLit80 => Sys2Proof.Machine.execFixedLit80 s
  | .fixedLit81 => Sys2Proof.Machine.execFixedLit81 s
  | .fixedLit82 => Sys2Proof.Machine.execFixedLit82 s
  | .fixedLit83 => Sys2Proof.Machine.execFixedLit83 s
  | .fixedLit84 => Sys2Proof.Machine.execFixedLit84 s
  | .fixedLit85 => Sys2Proof.Machine.execFixedLit85 s
  | .fixedLit86 => Sys2Proof.Machine.execFixedLit86 s
  | .fixedLit87 => Sys2Proof.Machine.execFixedLit87 s
  | .fixedLit88 => Sys2Proof.Machine.execFixedLit88 s
  | .fixedLit89 => Sys2Proof.Machine.execFixedLit89 s
  | .fixedLit90 => Sys2Proof.Machine.execFixedLit90 s
  | .fixedLit91 => Sys2Proof.Machine.execFixedLit91 s
  | .fixedLit92 => Sys2Proof.Machine.execFixedLit92 s
  | .fixedLit93 => Sys2Proof.Machine.execFixedLit93 s
  | .fixedLit94 => Sys2Proof.Machine.execFixedLit94 s
  | .fixedLit95 => Sys2Proof.Machine.execFixedLit95 s
  | .fixedLit96 => Sys2Proof.Machine.execFixedLit96 s
  | .fixedLit97 => Sys2Proof.Machine.execFixedLit97 s
  | .fixedLit98 => Sys2Proof.Machine.execFixedLit98 s
  | .fixedLit99 => Sys2Proof.Machine.execFixedLit99 s
  | .fixedLit100 => Sys2Proof.Machine.execFixedLit100 s
  | .fixedLit101 => Sys2Proof.Machine.execFixedLit101 s
  | .fixedLit102 => Sys2Proof.Machine.execFixedLit102 s
  | .fixedLit103 => Sys2Proof.Machine.execFixedLit103 s
  | .fixedLit104 => Sys2Proof.Machine.execFixedLit104 s
  | .fixedLit105 => Sys2Proof.Machine.execFixedLit105 s
  | .fixedLit106 => Sys2Proof.Machine.execFixedLit106 s
  | .fixedLit107 => Sys2Proof.Machine.execFixedLit107 s
  | .fixedLit108 => Sys2Proof.Machine.execFixedLit108 s
  | .fixedLit109 => Sys2Proof.Machine.execFixedLit109 s
  | .fixedLit110 => Sys2Proof.Machine.execFixedLit110 s
  | .fixedLit111 => Sys2Proof.Machine.execFixedLit111 s
  | .fixedLit112 => Sys2Proof.Machine.execFixedLit112 s
  | .fixedLit113 => Sys2Proof.Machine.execFixedLit113 s
  | .fixedLit114 => Sys2Proof.Machine.execFixedLit114 s
  | .fixedLit115 => Sys2Proof.Machine.execFixedLit115 s
  | .fixedLit116 => Sys2Proof.Machine.execFixedLit116 s
  | .fixedLit117 => Sys2Proof.Machine.execFixedLit117 s
  | .fixedLit118 => Sys2Proof.Machine.execFixedLit118 s
  | .fixedLit119 => Sys2Proof.Machine.execFixedLit119 s
  | .fixedLit120 => Sys2Proof.Machine.execFixedLit120 s
  | .fixedLit121 => Sys2Proof.Machine.execFixedLit121 s
  | .fixedLit122 => Sys2Proof.Machine.execFixedLit122 s
  | .fixedLit123 => Sys2Proof.Machine.execFixedLit123 s
  | .fixedLit124 => Sys2Proof.Machine.execFixedLit124 s
  | .fixedLit125 => Sys2Proof.Machine.execFixedLit125 s
  | .fixedLit126 => Sys2Proof.Machine.execFixedLit126 s
  | .fixedLit127 => Sys2Proof.Machine.execFixedLit127 s
  | .fixedLit128 => Sys2Proof.Machine.execFixedLit128 s
  | .fixedLit129 => Sys2Proof.Machine.execFixedLit129 s
  | .fixedLit130 => Sys2Proof.Machine.execFixedLit130 s
  | .fixedLit131 => Sys2Proof.Machine.execFixedLit131 s
  | .fixedLit132 => Sys2Proof.Machine.execFixedLit132 s
  | .fixedLit133 => Sys2Proof.Machine.execFixedLit133 s
  | .fixedLit134 => Sys2Proof.Machine.execFixedLit134 s
  | .fixedLit135 => Sys2Proof.Machine.execFixedLit135 s
  | .fixedLit136 => Sys2Proof.Machine.execFixedLit136 s
  | .fixedLit137 => Sys2Proof.Machine.execFixedLit137 s
  | .fixedLit138 => Sys2Proof.Machine.execFixedLit138 s
  | .fixedLit139 => Sys2Proof.Machine.execFixedLit139 s
  | .fixedLit140 => Sys2Proof.Machine.execFixedLit140 s
  | .fixedLit141 => Sys2Proof.Machine.execFixedLit141 s
  | .fixedLit142 => Sys2Proof.Machine.execFixedLit142 s
  | .fixedLit143 => Sys2Proof.Machine.execFixedLit143 s
  | .fixedLit144 => Sys2Proof.Machine.execFixedLit144 s
  | .fixedLit145 => Sys2Proof.Machine.execFixedLit145 s
  | .fixedLit146 => Sys2Proof.Machine.execFixedLit146 s
  | .fixedLit147 => Sys2Proof.Machine.execFixedLit147 s
  | .fixedLit148 => Sys2Proof.Machine.execFixedLit148 s
  | .fixedLit149 => Sys2Proof.Machine.execFixedLit149 s
  | .fixedLit150 => Sys2Proof.Machine.execFixedLit150 s
  | .fixedLit151 => Sys2Proof.Machine.execFixedLit151 s
  | .fixedLit152 => Sys2Proof.Machine.execFixedLit152 s
  | .fixedLit153 => Sys2Proof.Machine.execFixedLit153 s
  | .fixedLit154 => Sys2Proof.Machine.execFixedLit154 s
  | .fixedLit155 => Sys2Proof.Machine.execFixedLit155 s
  | .fixedLit156 => Sys2Proof.Machine.execFixedLit156 s
  | .fixedLit157 => Sys2Proof.Machine.execFixedLit157 s
  | .fixedLit158 => Sys2Proof.Machine.execFixedLit158 s
  | .fixedLit159 => Sys2Proof.Machine.execFixedLit159 s
  | .fixedLit160 => Sys2Proof.Machine.execFixedLit160 s
  | .fixedLit161 => Sys2Proof.Machine.execFixedLit161 s
  | .fixedLit162 => Sys2Proof.Machine.execFixedLit162 s
  | .fixedLit163 => Sys2Proof.Machine.execFixedLit163 s
  | .fixedLit164 => Sys2Proof.Machine.execFixedLit164 s
  | .fixedLit165 => Sys2Proof.Machine.execFixedLit165 s
  | .fixedLit166 => Sys2Proof.Machine.execFixedLit166 s
  | .fixedLit167 => Sys2Proof.Machine.execFixedLit167 s
  | .fixedLit168 => Sys2Proof.Machine.execFixedLit168 s
  | .fixedLit169 => Sys2Proof.Machine.execFixedLit169 s
  | .fixedLit170 => Sys2Proof.Machine.execFixedLit170 s
  | .fixedLit171 => Sys2Proof.Machine.execFixedLit171 s
  | .fixedLit172 => Sys2Proof.Machine.execFixedLit172 s
  | .fixedLit173 => Sys2Proof.Machine.execFixedLit173 s
  | .fixedLit174 => Sys2Proof.Machine.execFixedLit174 s
  | .fixedLit175 => Sys2Proof.Machine.execFixedLit175 s
  | .fixedLit176 => Sys2Proof.Machine.execFixedLit176 s
  | .fixedLit177 => Sys2Proof.Machine.execFixedLit177 s
  | .fixedLit178 => Sys2Proof.Machine.execFixedLit178 s
  | .fixedLit179 => Sys2Proof.Machine.execFixedLit179 s
  | .fixedLit180 => Sys2Proof.Machine.execFixedLit180 s
  | .fixedLit181 => Sys2Proof.Machine.execFixedLit181 s
  | .fixedLit182 => Sys2Proof.Machine.execFixedLit182 s
  | .fixedLit183 => Sys2Proof.Machine.execFixedLit183 s
  | .fixedLit184 => Sys2Proof.Machine.execFixedLit184 s
  | .fixedLit185 => Sys2Proof.Machine.execFixedLit185 s
  | .fixedLit186 => Sys2Proof.Machine.execFixedLit186 s
  | .fixedLit187 => Sys2Proof.Machine.execFixedLit187 s
  | .fixedLit188 => Sys2Proof.Machine.execFixedLit188 s
  | .fixedLit189 => Sys2Proof.Machine.execFixedLit189 s
  | .fixedLit190 => Sys2Proof.Machine.execFixedLit190 s
  | .fixedLit191 => Sys2Proof.Machine.execFixedLit191 s
  | .fixedLit192 => Sys2Proof.Machine.execFixedLit192 s
  | .fixedLit193 => Sys2Proof.Machine.execFixedLit193 s
  | .fixedLit194 => Sys2Proof.Machine.execFixedLit194 s
  | .fixedLit195 => Sys2Proof.Machine.execFixedLit195 s
  | .fixedLit196 => Sys2Proof.Machine.execFixedLit196 s
  | .fixedLit197 => Sys2Proof.Machine.execFixedLit197 s
  | .fixedLit198 => Sys2Proof.Machine.execFixedLit198 s
  | .fixedLit199 => Sys2Proof.Machine.execFixedLit199 s
  | .fixedLit200 => Sys2Proof.Machine.execFixedLit200 s
  | .fixedLit201 => Sys2Proof.Machine.execFixedLit201 s
  | .fixedLit202 => Sys2Proof.Machine.execFixedLit202 s
  | .fixedLit203 => Sys2Proof.Machine.execFixedLit203 s
  | .fixedLit204 => Sys2Proof.Machine.execFixedLit204 s
  | .fixedLit205 => Sys2Proof.Machine.execFixedLit205 s
  | .fixedLit206 => Sys2Proof.Machine.execFixedLit206 s
  | .fixedLit207 => Sys2Proof.Machine.execFixedLit207 s
  | .fixedLit208 => Sys2Proof.Machine.execFixedLit208 s
  | .fixedLit209 => Sys2Proof.Machine.execFixedLit209 s
  | .fixedLit210 => Sys2Proof.Machine.execFixedLit210 s
  | .fixedLit211 => Sys2Proof.Machine.execFixedLit211 s
  | .fixedLit212 => Sys2Proof.Machine.execFixedLit212 s
  | .fixedLit213 => Sys2Proof.Machine.execFixedLit213 s
  | .fixedLit214 => Sys2Proof.Machine.execFixedLit214 s
  | .fixedLit215 => Sys2Proof.Machine.execFixedLit215 s
  | .fixedLit216 => Sys2Proof.Machine.execFixedLit216 s
  | .fixedLit217 => Sys2Proof.Machine.execFixedLit217 s
  | .fixedLit218 => Sys2Proof.Machine.execFixedLit218 s
  | .fixedLit219 => Sys2Proof.Machine.execFixedLit219 s
  | .fixedLit220 => Sys2Proof.Machine.execFixedLit220 s
  | .fixedLit221 => Sys2Proof.Machine.execFixedLit221 s
  | .fixedLit222 => Sys2Proof.Machine.execFixedLit222 s
  | .fixedLit223 => Sys2Proof.Machine.execFixedLit223 s
  | .fixedLit224 => Sys2Proof.Machine.execFixedLit224 s
  | .fixedLit225 => Sys2Proof.Machine.execFixedLit225 s
  | .fixedLit226 => Sys2Proof.Machine.execFixedLit226 s
  | .fixedLit227 => Sys2Proof.Machine.execFixedLit227 s
  | .fixedLit228 => Sys2Proof.Machine.execFixedLit228 s
  | .fixedLit229 => Sys2Proof.Machine.execFixedLit229 s
  | .fixedLit230 => Sys2Proof.Machine.execFixedLit230 s
  | .fixedLit231 => Sys2Proof.Machine.execFixedLit231 s
  | .fixedLit232 => Sys2Proof.Machine.execFixedLit232 s
  | .fixedLit233 => Sys2Proof.Machine.execFixedLit233 s
  | .fixedLit234 => Sys2Proof.Machine.execFixedLit234 s
  | .fixedLit235 => Sys2Proof.Machine.execFixedLit235 s
  | .fixedLit236 => Sys2Proof.Machine.execFixedLit236 s
  | .fixedLit237 => Sys2Proof.Machine.execFixedLit237 s
  | .fixedLit238 => Sys2Proof.Machine.execFixedLit238 s
  | .fixedLit239 => Sys2Proof.Machine.execFixedLit239 s
  | .fixedLit240 => Sys2Proof.Machine.execFixedLit240 s
  | .fixedLit241 => Sys2Proof.Machine.execFixedLit241 s
  | .fixedLit242 => Sys2Proof.Machine.execFixedLit242 s
  | .fixedLit243 => Sys2Proof.Machine.execFixedLit243 s
  | .fixedLit244 => Sys2Proof.Machine.execFixedLit244 s
  | .fixedLit245 => Sys2Proof.Machine.execFixedLit245 s
  | .fixedLit246 => Sys2Proof.Machine.execFixedLit246 s
  | .fixedLit247 => Sys2Proof.Machine.execFixedLit247 s
  | .fixedLit248 => Sys2Proof.Machine.execFixedLit248 s
  | .fixedLit249 => Sys2Proof.Machine.execFixedLit249 s
  | .fixedLit250 => Sys2Proof.Machine.execFixedLit250 s
  | .fixedLit251 => Sys2Proof.Machine.execFixedLit251 s
  | .fixedLit252 => Sys2Proof.Machine.execFixedLit252 s
  | .fixedLit253 => Sys2Proof.Machine.execFixedLit253 s
  | .fixedLit254 => Sys2Proof.Machine.execFixedLit254 s
  | .fixedLit255 => Sys2Proof.Machine.execFixedLit255 s
  | .fixedEob => Sys2Proof.Machine.execFixedEob s
  | .fixedLsym257 => Sys2Proof.Machine.execFixedLsym257 s
  | .fixedLsym258 => Sys2Proof.Machine.execFixedLsym258 s
  | .fixedLsym259 => Sys2Proof.Machine.execFixedLsym259 s
  | .fixedLsym260 => Sys2Proof.Machine.execFixedLsym260 s
  | .fixedLsym261 => Sys2Proof.Machine.execFixedLsym261 s
  | .fixedLsym262 => Sys2Proof.Machine.execFixedLsym262 s
  | .fixedLsym263 => Sys2Proof.Machine.execFixedLsym263 s
  | .fixedLsym264 => Sys2Proof.Machine.execFixedLsym264 s
  | .fixedLsym265 => Sys2Proof.Machine.execFixedLsym265 s
  | .fixedLsym266 => Sys2Proof.Machine.execFixedLsym266 s
  | .fixedLsym267 => Sys2Proof.Machine.execFixedLsym267 s
  | .fixedLsym268 => Sys2Proof.Machine.execFixedLsym268 s
  | .fixedLsym269 => Sys2Proof.Machine.execFixedLsym269 s
  | .fixedLsym270 => Sys2Proof.Machine.execFixedLsym270 s
  | .fixedLsym271 => Sys2Proof.Machine.execFixedLsym271 s
  | .fixedLsym272 => Sys2Proof.Machine.execFixedLsym272 s
  | .fixedLsym273 => Sys2Proof.Machine.execFixedLsym273 s
  | .fixedLsym274 => Sys2Proof.Machine.execFixedLsym274 s
  | .fixedLsym275 => Sys2Proof.Machine.execFixedLsym275 s
  | .fixedLsym276 => Sys2Proof.Machine.execFixedLsym276 s
  | .fixedLsym277 => Sys2Proof.Machine.execFixedLsym277 s
  | .fixedLsym278 => Sys2Proof.Machine.execFixedLsym278 s
  | .fixedLsym279 => Sys2Proof.Machine.execFixedLsym279 s
  | .fixedLsym280 => Sys2Proof.Machine.execFixedLsym280 s
  | .fixedLsym281 => Sys2Proof.Machine.execFixedLsym281 s
  | .fixedLsym282 => Sys2Proof.Machine.execFixedLsym282 s
  | .fixedLsym283 => Sys2Proof.Machine.execFixedLsym283 s
  | .fixedLsym284 => Sys2Proof.Machine.execFixedLsym284 s
  | .fixedLsym285 => Sys2Proof.Machine.execFixedLsym285 s
  | .fixedLsym286 => Sys2Proof.Machine.execFixedLsym286 s
  | .fixedLsym287 => Sys2Proof.Machine.execFixedLsym287 s
  -- FIXED_D
  | .fixedDsym0 => Sys2Proof.Machine.execFixedDsym0 s
  | .fixedDsym1 => Sys2Proof.Machine.execFixedDsym1 s
  | .fixedDsym2 => Sys2Proof.Machine.execFixedDsym2 s
  | .fixedDsym3 => Sys2Proof.Machine.execFixedDsym3 s
  | .fixedDsym4 => Sys2Proof.Machine.execFixedDsym4 s
  | .fixedDsym5 => Sys2Proof.Machine.execFixedDsym5 s
  | .fixedDsym6 => Sys2Proof.Machine.execFixedDsym6 s
  | .fixedDsym7 => Sys2Proof.Machine.execFixedDsym7 s
  | .fixedDsym8 => Sys2Proof.Machine.execFixedDsym8 s
  | .fixedDsym9 => Sys2Proof.Machine.execFixedDsym9 s
  | .fixedDsym10 => Sys2Proof.Machine.execFixedDsym10 s
  | .fixedDsym11 => Sys2Proof.Machine.execFixedDsym11 s
  | .fixedDsym12 => Sys2Proof.Machine.execFixedDsym12 s
  | .fixedDsym13 => Sys2Proof.Machine.execFixedDsym13 s
  | .fixedDsym14 => Sys2Proof.Machine.execFixedDsym14 s
  | .fixedDsym15 => Sys2Proof.Machine.execFixedDsym15 s
  | .fixedDsym16 => Sys2Proof.Machine.execFixedDsym16 s
  | .fixedDsym17 => Sys2Proof.Machine.execFixedDsym17 s
  | .fixedDsym18 => Sys2Proof.Machine.execFixedDsym18 s
  | .fixedDsym19 => Sys2Proof.Machine.execFixedDsym19 s
  | .fixedDsym20 => Sys2Proof.Machine.execFixedDsym20 s
  | .fixedDsym21 => Sys2Proof.Machine.execFixedDsym21 s
  | .fixedDsym22 => Sys2Proof.Machine.execFixedDsym22 s
  | .fixedDsym23 => Sys2Proof.Machine.execFixedDsym23 s
  | .fixedDsym24 => Sys2Proof.Machine.execFixedDsym24 s
  | .fixedDsym25 => Sys2Proof.Machine.execFixedDsym25 s
  | .fixedDsym26 => Sys2Proof.Machine.execFixedDsym26 s
  | .fixedDsym27 => Sys2Proof.Machine.execFixedDsym27 s
  | .fixedDsym28 => Sys2Proof.Machine.execFixedDsym28 s
  | .fixedDsym29 => Sys2Proof.Machine.execFixedDsym29 s
  | .fixedDsym30 => Sys2Proof.Machine.execFixedDsym30 s
  | .fixedDsym31 => Sys2Proof.Machine.execFixedDsym31 s

end Sys2Proof.Machine
end

