-- ==== Sys2Proof/WellFormed.lean ====
section
/-! DEFINITION. Which instructions are well formed: a command operand is a 32-bit two's-complement integer
(spec/30_encoding.md R61), and a field of a stream element fits the width its row gives it (R66, R69, R71). Operands
outside a command's own domain are well formed: the command is then refused or faults when it runs (60 R244). -/

namespace Sys2Proof

/-- A command operand: an integer of -2^31 .. 2^31-1 (R61). -/
def operandOk (x : Int) : Bool := inRange (-2147483648) 2147483648 x

/-- A field of `width` bits. -/
def fieldOk (width x : Nat) : Bool := decide (x < 2 ^ width)

/-- An instruction is well formed when every operand fits its place in the encoding. -/
def Instr.wf (i : Instr) : Bool :=
  match i with
  | .reset => true
  | .brPos => true
  | .brTry => true
  | .brRdu n => operandOk n
  | .hcBld slot base count => operandOk slot && operandOk base && operandOk count
  | .hcDec slot => operandOk slot
  | .swApp byte => operandOk byte
  | .swCpy distance length => operandOk distance && operandOk length
  | .bdRun => true
  | .lbSet index value => operandOk index && operandOk value
  | .csrRd number => operandOk number
  | .reserved11 => true
  | .reserved12 => true
  | .reserved13 => true
  | .reserved14 => true
  | .reserved15 => true
  | .hdrStored _ => true
  | .hdrFixed _ => true
  | .hdrDynamic _ => true
  | .hdrReserved _ => true
  | .storedPad => true
  | .storedLen len => fieldOk 16 len
  | .storedNlen nlen => fieldOk 16 nlen
  | .storedData byte => fieldOk 8 byte
  | .lit byte => fieldOk 8 byte
  | .eob => true
  | .lsym257 => true
  | .lsym258 => true
  | .lsym259 => true
  | .lsym260 => true
  | .lsym261 => true
  | .lsym262 => true
  | .lsym263 => true
  | .lsym264 => true
  | .lsym265 => true
  | .lsym266 => true
  | .lsym267 => true
  | .lsym268 => true
  | .lsym269 => true
  | .lsym270 => true
  | .lsym271 => true
  | .lsym272 => true
  | .lsym273 => true
  | .lsym274 => true
  | .lsym275 => true
  | .lsym276 => true
  | .lsym277 => true
  | .lsym278 => true
  | .lsym279 => true
  | .lsym280 => true
  | .lsym281 => true
  | .lsym282 => true
  | .lsym283 => true
  | .lsym284 => true
  | .lsym285 => true
  | .lsym286 => true
  | .lsym287 => true
  | .dsym0 => true
  | .dsym1 => true
  | .dsym2 => true
  | .dsym3 => true
  | .dsym4 => true
  | .dsym5 => true
  | .dsym6 => true
  | .dsym7 => true
  | .dsym8 => true
  | .dsym9 => true
  | .dsym10 => true
  | .dsym11 => true
  | .dsym12 => true
  | .dsym13 => true
  | .dsym14 => true
  | .dsym15 => true
  | .dsym16 => true
  | .dsym17 => true
  | .dsym18 => true
  | .dsym19 => true
  | .dsym20 => true
  | .dsym21 => true
  | .dsym22 => true
  | .dsym23 => true
  | .dsym24 => true
  | .dsym25 => true
  | .dsym26 => true
  | .dsym27 => true
  | .dsym28 => true
  | .dsym29 => true
  | .dsym30 => true
  | .dsym31 => true
  | .preHlit h => fieldOk 5 h
  | .preHdist d => fieldOk 5 d
  | .preHclen c => fieldOk 4 c
  | .preCll0 v => fieldOk 3 v
  | .preCll1 v => fieldOk 3 v
  | .preCll2 v => fieldOk 3 v
  | .preCll3 v => fieldOk 3 v
  | .preCll4 v => fieldOk 3 v
  | .preCll5 v => fieldOk 3 v
  | .preCll6 v => fieldOk 3 v
  | .preCll7 v => fieldOk 3 v
  | .preCll8 v => fieldOk 3 v
  | .preCll9 v => fieldOk 3 v
  | .preCll10 v => fieldOk 3 v
  | .preCll11 v => fieldOk 3 v
  | .preCll12 v => fieldOk 3 v
  | .preCll13 v => fieldOk 3 v
  | .preCll14 v => fieldOk 3 v
  | .preCll15 v => fieldOk 3 v
  | .preCll16 v => fieldOk 3 v
  | .preCll17 v => fieldOk 3 v
  | .preCll18 v => fieldOk 3 v
  | .clsym0 => true
  | .clsym1 => true
  | .clsym2 => true
  | .clsym3 => true
  | .clsym4 => true
  | .clsym5 => true
  | .clsym6 => true
  | .clsym7 => true
  | .clsym8 => true
  | .clsym9 => true
  | .clsym10 => true
  | .clsym11 => true
  | .clsym12 => true
  | .clsym13 => true
  | .clsym14 => true
  | .clsym15 => true
  | .clsym16 => true
  | .clsym17 => true
  | .clsym18 => true
  | .fixedLit0 => true
  | .fixedLit1 => true
  | .fixedLit2 => true
  | .fixedLit3 => true
  | .fixedLit4 => true
  | .fixedLit5 => true
  | .fixedLit6 => true
  | .fixedLit7 => true
  | .fixedLit8 => true
  | .fixedLit9 => true
  | .fixedLit10 => true
  | .fixedLit11 => true
  | .fixedLit12 => true
  | .fixedLit13 => true
  | .fixedLit14 => true
  | .fixedLit15 => true
  | .fixedLit16 => true
  | .fixedLit17 => true
  | .fixedLit18 => true
  | .fixedLit19 => true
  | .fixedLit20 => true
  | .fixedLit21 => true
  | .fixedLit22 => true
  | .fixedLit23 => true
  | .fixedLit24 => true
  | .fixedLit25 => true
  | .fixedLit26 => true
  | .fixedLit27 => true
  | .fixedLit28 => true
  | .fixedLit29 => true
  | .fixedLit30 => true
  | .fixedLit31 => true
  | .fixedLit32 => true
  | .fixedLit33 => true
  | .fixedLit34 => true
  | .fixedLit35 => true
  | .fixedLit36 => true
  | .fixedLit37 => true
  | .fixedLit38 => true
  | .fixedLit39 => true
  | .fixedLit40 => true
  | .fixedLit41 => true
  | .fixedLit42 => true
  | .fixedLit43 => true
  | .fixedLit44 => true
  | .fixedLit45 => true
  | .fixedLit46 => true
  | .fixedLit47 => true
  | .fixedLit48 => true
  | .fixedLit49 => true
  | .fixedLit50 => true
  | .fixedLit51 => true
  | .fixedLit52 => true
  | .fixedLit53 => true
  | .fixedLit54 => true
  | .fixedLit55 => true
  | .fixedLit56 => true
  | .fixedLit57 => true
  | .fixedLit58 => true
  | .fixedLit59 => true
  | .fixedLit60 => true
  | .fixedLit61 => true
  | .fixedLit62 => true
  | .fixedLit63 => true
  | .fixedLit64 => true
  | .fixedLit65 => true
  | .fixedLit66 => true
  | .fixedLit67 => true
  | .fixedLit68 => true
  | .fixedLit69 => true
  | .fixedLit70 => true
  | .fixedLit71 => true
  | .fixedLit72 => true
  | .fixedLit73 => true
  | .fixedLit74 => true
  | .fixedLit75 => true
  | .fixedLit76 => true
  | .fixedLit77 => true
  | .fixedLit78 => true
  | .fixedLit79 => true
  | .fixedLit80 => true
  | .fixedLit81 => true
  | .fixedLit82 => true
  | .fixedLit83 => true
  | .fixedLit84 => true
  | .fixedLit85 => true
  | .fixedLit86 => true
  | .fixedLit87 => true
  | .fixedLit88 => true
  | .fixedLit89 => true
  | .fixedLit90 => true
  | .fixedLit91 => true
  | .fixedLit92 => true
  | .fixedLit93 => true
  | .fixedLit94 => true
  | .fixedLit95 => true
  | .fixedLit96 => true
  | .fixedLit97 => true
  | .fixedLit98 => true
  | .fixedLit99 => true
  | .fixedLit100 => true
  | .fixedLit101 => true
  | .fixedLit102 => true
  | .fixedLit103 => true
  | .fixedLit104 => true
  | .fixedLit105 => true
  | .fixedLit106 => true
  | .fixedLit107 => true
  | .fixedLit108 => true
  | .fixedLit109 => true
  | .fixedLit110 => true
  | .fixedLit111 => true
  | .fixedLit112 => true
  | .fixedLit113 => true
  | .fixedLit114 => true
  | .fixedLit115 => true
  | .fixedLit116 => true
  | .fixedLit117 => true
  | .fixedLit118 => true
  | .fixedLit119 => true
  | .fixedLit120 => true
  | .fixedLit121 => true
  | .fixedLit122 => true
  | .fixedLit123 => true
  | .fixedLit124 => true
  | .fixedLit125 => true
  | .fixedLit126 => true
  | .fixedLit127 => true
  | .fixedLit128 => true
  | .fixedLit129 => true
  | .fixedLit130 => true
  | .fixedLit131 => true
  | .fixedLit132 => true
  | .fixedLit133 => true
  | .fixedLit134 => true
  | .fixedLit135 => true
  | .fixedLit136 => true
  | .fixedLit137 => true
  | .fixedLit138 => true
  | .fixedLit139 => true
  | .fixedLit140 => true
  | .fixedLit141 => true
  | .fixedLit142 => true
  | .fixedLit143 => true
  | .fixedLit144 => true
  | .fixedLit145 => true
  | .fixedLit146 => true
  | .fixedLit147 => true
  | .fixedLit148 => true
  | .fixedLit149 => true
  | .fixedLit150 => true
  | .fixedLit151 => true
  | .fixedLit152 => true
  | .fixedLit153 => true
  | .fixedLit154 => true
  | .fixedLit155 => true
  | .fixedLit156 => true
  | .fixedLit157 => true
  | .fixedLit158 => true
  | .fixedLit159 => true
  | .fixedLit160 => true
  | .fixedLit161 => true
  | .fixedLit162 => true
  | .fixedLit163 => true
  | .fixedLit164 => true
  | .fixedLit165 => true
  | .fixedLit166 => true
  | .fixedLit167 => true
  | .fixedLit168 => true
  | .fixedLit169 => true
  | .fixedLit170 => true
  | .fixedLit171 => true
  | .fixedLit172 => true
  | .fixedLit173 => true
  | .fixedLit174 => true
  | .fixedLit175 => true
  | .fixedLit176 => true
  | .fixedLit177 => true
  | .fixedLit178 => true
  | .fixedLit179 => true
  | .fixedLit180 => true
  | .fixedLit181 => true
  | .fixedLit182 => true
  | .fixedLit183 => true
  | .fixedLit184 => true
  | .fixedLit185 => true
  | .fixedLit186 => true
  | .fixedLit187 => true
  | .fixedLit188 => true
  | .fixedLit189 => true
  | .fixedLit190 => true
  | .fixedLit191 => true
  | .fixedLit192 => true
  | .fixedLit193 => true
  | .fixedLit194 => true
  | .fixedLit195 => true
  | .fixedLit196 => true
  | .fixedLit197 => true
  | .fixedLit198 => true
  | .fixedLit199 => true
  | .fixedLit200 => true
  | .fixedLit201 => true
  | .fixedLit202 => true
  | .fixedLit203 => true
  | .fixedLit204 => true
  | .fixedLit205 => true
  | .fixedLit206 => true
  | .fixedLit207 => true
  | .fixedLit208 => true
  | .fixedLit209 => true
  | .fixedLit210 => true
  | .fixedLit211 => true
  | .fixedLit212 => true
  | .fixedLit213 => true
  | .fixedLit214 => true
  | .fixedLit215 => true
  | .fixedLit216 => true
  | .fixedLit217 => true
  | .fixedLit218 => true
  | .fixedLit219 => true
  | .fixedLit220 => true
  | .fixedLit221 => true
  | .fixedLit222 => true
  | .fixedLit223 => true
  | .fixedLit224 => true
  | .fixedLit225 => true
  | .fixedLit226 => true
  | .fixedLit227 => true
  | .fixedLit228 => true
  | .fixedLit229 => true
  | .fixedLit230 => true
  | .fixedLit231 => true
  | .fixedLit232 => true
  | .fixedLit233 => true
  | .fixedLit234 => true
  | .fixedLit235 => true
  | .fixedLit236 => true
  | .fixedLit237 => true
  | .fixedLit238 => true
  | .fixedLit239 => true
  | .fixedLit240 => true
  | .fixedLit241 => true
  | .fixedLit242 => true
  | .fixedLit243 => true
  | .fixedLit244 => true
  | .fixedLit245 => true
  | .fixedLit246 => true
  | .fixedLit247 => true
  | .fixedLit248 => true
  | .fixedLit249 => true
  | .fixedLit250 => true
  | .fixedLit251 => true
  | .fixedLit252 => true
  | .fixedLit253 => true
  | .fixedLit254 => true
  | .fixedLit255 => true
  | .fixedEob => true
  | .fixedLsym257 => true
  | .fixedLsym258 => true
  | .fixedLsym259 => true
  | .fixedLsym260 => true
  | .fixedLsym261 => true
  | .fixedLsym262 => true
  | .fixedLsym263 => true
  | .fixedLsym264 => true
  | .fixedLsym265 => true
  | .fixedLsym266 => true
  | .fixedLsym267 => true
  | .fixedLsym268 => true
  | .fixedLsym269 => true
  | .fixedLsym270 => true
  | .fixedLsym271 => true
  | .fixedLsym272 => true
  | .fixedLsym273 => true
  | .fixedLsym274 => true
  | .fixedLsym275 => true
  | .fixedLsym276 => true
  | .fixedLsym277 => true
  | .fixedLsym278 => true
  | .fixedLsym279 => true
  | .fixedLsym280 => true
  | .fixedLsym281 => true
  | .fixedLsym282 => true
  | .fixedLsym283 => true
  | .fixedLsym284 => true
  | .fixedLsym285 => true
  | .fixedLsym286 => true
  | .fixedLsym287 => true
  | .fixedDsym0 => true
  | .fixedDsym1 => true
  | .fixedDsym2 => true
  | .fixedDsym3 => true
  | .fixedDsym4 => true
  | .fixedDsym5 => true
  | .fixedDsym6 => true
  | .fixedDsym7 => true
  | .fixedDsym8 => true
  | .fixedDsym9 => true
  | .fixedDsym10 => true
  | .fixedDsym11 => true
  | .fixedDsym12 => true
  | .fixedDsym13 => true
  | .fixedDsym14 => true
  | .fixedDsym15 => true
  | .fixedDsym16 => true
  | .fixedDsym17 => true
  | .fixedDsym18 => true
  | .fixedDsym19 => true
  | .fixedDsym20 => true
  | .fixedDsym21 => true
  | .fixedDsym22 => true
  | .fixedDsym23 => true
  | .fixedDsym24 => true
  | .fixedDsym25 => true
  | .fixedDsym26 => true
  | .fixedDsym27 => true
  | .fixedDsym28 => true
  | .fixedDsym29 => true
  | .fixedDsym30 => true
  | .fixedDsym31 => true

end Sys2Proof
end

