-- ==== Sys2Proof/Decode.lean ====
section
/-! DEFINITION. Decoding and encoding. `decode` is total on every command word and on every number presented as a
stream element; it rejects by name. `encode` is written from the same tables (spec/30_encoding.md R62 to R74,
spec/opcode_table.json). The context in which an element stands (its `Format`) comes from the block decoder's place in
the stream (R68), so it is an argument of decoding and not part of the number. -/

namespace Sys2Proof

/-- Why a number is no stream element of the format it is presented as. -/
inductive Reject
  | notAHeader          -- a header is 3 bits (R64)
  | lenTooWide          -- LEN is 16 bits (R66)
  | nlenTooWide         -- NLEN is 16 bits (R66)
  | dataTooWide         -- a stored data byte is 8 bits (R66)
  | countTooWide        -- HLIT and HDIST are 5 bits, HCLEN is 4 (R71)
  | groupTooWide        -- a code-length-code length is 3 bits (R71)
  | noSuchGroup         -- the groups are 0 to 18 (R72)
  | noLiteralLength     -- literal/length symbols are 0 to 287 (R69, R159)
  | noDistance          -- distance symbols are 0 to 31 (R70)
  | noCodeLength        -- code-length symbols are 0 to 18 (R73)
  | noFixedLiteralKey   -- no codeword of the fixed literal/length table has this key (R74)
  | noFixedDistanceKey  -- no codeword of the fixed distance table has this key (R74)
  deriving DecidableEq, Repr

/-- The operation codes (R62); an operand a command does not use is ignored (R61). Codes 11 to 15 are reserved. -/
def decodeCommand (c : Command) : Instr :=
  match c.op.toNat with
  | 0 => .reset
  | 1 => .brPos
  | 2 => .brTry
  | 3 => .brRdu c.a.toInt
  | 4 => .hcBld c.a.toInt c.b.toInt c.c.toInt
  | 5 => .hcDec c.a.toInt
  | 6 => .swApp c.a.toInt
  | 7 => .swCpy c.a.toInt c.b.toInt
  | 8 => .bdRun
  | 9 => .lbSet c.a.toInt c.b.toInt
  | 10 => .csrRd c.a.toInt
  | 11 => .reserved11
  | 12 => .reserved12
  | 13 => .reserved13
  | 14 => .reserved14
  | _ => .reserved15

/-- The length symbols 257 to 287, in symbol order (R69) -/
def lengthRows : List Instr :=
  [.lsym257, .lsym258, .lsym259, .lsym260, .lsym261, .lsym262, .lsym263, .lsym264, .lsym265, .lsym266,
   .lsym267, .lsym268, .lsym269, .lsym270, .lsym271, .lsym272, .lsym273, .lsym274, .lsym275, .lsym276,
   .lsym277, .lsym278, .lsym279, .lsym280, .lsym281, .lsym282, .lsym283, .lsym284, .lsym285, .lsym286,
   .lsym287]

/-- The distance symbols 0 to 31, in symbol order (R70) -/
def distanceRows : List Instr :=
  [.dsym0, .dsym1, .dsym2, .dsym3, .dsym4, .dsym5, .dsym6, .dsym7, .dsym8, .dsym9, .dsym10, .dsym11, .dsym12,
   .dsym13, .dsym14, .dsym15, .dsym16, .dsym17, .dsym18, .dsym19, .dsym20, .dsym21, .dsym22, .dsym23,
   .dsym24, .dsym25, .dsym26, .dsym27, .dsym28, .dsym29, .dsym30, .dsym31]

/-- The code-length symbols 0 to 18, in symbol order (R73) -/
def codeLengthRows : List Instr :=
  [.clsym0, .clsym1, .clsym2, .clsym3, .clsym4, .clsym5, .clsym6, .clsym7, .clsym8, .clsym9, .clsym10,
   .clsym11, .clsym12, .clsym13, .clsym14, .clsym15, .clsym16, .clsym17, .clsym18]

/-- The codewords of the fixed literal/length table, in symbol order (R74): rows 0 to 31. -/
def fixedLLRows0 : List Instr :=
  [.fixedLit0, .fixedLit1, .fixedLit2, .fixedLit3, .fixedLit4, .fixedLit5, .fixedLit6, .fixedLit7,
   .fixedLit8, .fixedLit9, .fixedLit10, .fixedLit11, .fixedLit12, .fixedLit13, .fixedLit14, .fixedLit15,
   .fixedLit16, .fixedLit17, .fixedLit18, .fixedLit19, .fixedLit20, .fixedLit21, .fixedLit22, .fixedLit23,
   .fixedLit24, .fixedLit25, .fixedLit26, .fixedLit27, .fixedLit28, .fixedLit29, .fixedLit30, .fixedLit31]

/-- The codewords of the fixed literal/length table, in symbol order (R74): rows 32 to 63. -/
def fixedLLRows1 : List Instr :=
  [.fixedLit32, .fixedLit33, .fixedLit34, .fixedLit35, .fixedLit36, .fixedLit37, .fixedLit38, .fixedLit39,
   .fixedLit40, .fixedLit41, .fixedLit42, .fixedLit43, .fixedLit44, .fixedLit45, .fixedLit46, .fixedLit47,
   .fixedLit48, .fixedLit49, .fixedLit50, .fixedLit51, .fixedLit52, .fixedLit53, .fixedLit54, .fixedLit55,
   .fixedLit56, .fixedLit57, .fixedLit58, .fixedLit59, .fixedLit60, .fixedLit61, .fixedLit62, .fixedLit63]

/-- The codewords of the fixed literal/length table, in symbol order (R74): rows 64 to 95. -/
def fixedLLRows2 : List Instr :=
  [.fixedLit64, .fixedLit65, .fixedLit66, .fixedLit67, .fixedLit68, .fixedLit69, .fixedLit70, .fixedLit71,
   .fixedLit72, .fixedLit73, .fixedLit74, .fixedLit75, .fixedLit76, .fixedLit77, .fixedLit78, .fixedLit79,
   .fixedLit80, .fixedLit81, .fixedLit82, .fixedLit83, .fixedLit84, .fixedLit85, .fixedLit86, .fixedLit87,
   .fixedLit88, .fixedLit89, .fixedLit90, .fixedLit91, .fixedLit92, .fixedLit93, .fixedLit94, .fixedLit95]

/-- The codewords of the fixed literal/length table, in symbol order (R74): rows 96 to 127. -/
def fixedLLRows3 : List Instr :=
  [.fixedLit96, .fixedLit97, .fixedLit98, .fixedLit99, .fixedLit100, .fixedLit101, .fixedLit102,
   .fixedLit103, .fixedLit104, .fixedLit105, .fixedLit106, .fixedLit107, .fixedLit108, .fixedLit109,
   .fixedLit110, .fixedLit111, .fixedLit112, .fixedLit113, .fixedLit114, .fixedLit115, .fixedLit116,
   .fixedLit117, .fixedLit118, .fixedLit119, .fixedLit120, .fixedLit121, .fixedLit122, .fixedLit123,
   .fixedLit124, .fixedLit125, .fixedLit126, .fixedLit127]

/-- The codewords of the fixed literal/length table, in symbol order (R74): rows 128 to 159. -/
def fixedLLRows4 : List Instr :=
  [.fixedLit128, .fixedLit129, .fixedLit130, .fixedLit131, .fixedLit132, .fixedLit133, .fixedLit134,
   .fixedLit135, .fixedLit136, .fixedLit137, .fixedLit138, .fixedLit139, .fixedLit140, .fixedLit141,
   .fixedLit142, .fixedLit143, .fixedLit144, .fixedLit145, .fixedLit146, .fixedLit147, .fixedLit148,
   .fixedLit149, .fixedLit150, .fixedLit151, .fixedLit152, .fixedLit153, .fixedLit154, .fixedLit155,
   .fixedLit156, .fixedLit157, .fixedLit158, .fixedLit159]

/-- The codewords of the fixed literal/length table, in symbol order (R74): rows 160 to 191. -/
def fixedLLRows5 : List Instr :=
  [.fixedLit160, .fixedLit161, .fixedLit162, .fixedLit163, .fixedLit164, .fixedLit165, .fixedLit166,
   .fixedLit167, .fixedLit168, .fixedLit169, .fixedLit170, .fixedLit171, .fixedLit172, .fixedLit173,
   .fixedLit174, .fixedLit175, .fixedLit176, .fixedLit177, .fixedLit178, .fixedLit179, .fixedLit180,
   .fixedLit181, .fixedLit182, .fixedLit183, .fixedLit184, .fixedLit185, .fixedLit186, .fixedLit187,
   .fixedLit188, .fixedLit189, .fixedLit190, .fixedLit191]

/-- The codewords of the fixed literal/length table, in symbol order (R74): rows 192 to 223. -/
def fixedLLRows6 : List Instr :=
  [.fixedLit192, .fixedLit193, .fixedLit194, .fixedLit195, .fixedLit196, .fixedLit197, .fixedLit198,
   .fixedLit199, .fixedLit200, .fixedLit201, .fixedLit202, .fixedLit203, .fixedLit204, .fixedLit205,
   .fixedLit206, .fixedLit207, .fixedLit208, .fixedLit209, .fixedLit210, .fixedLit211, .fixedLit212,
   .fixedLit213, .fixedLit214, .fixedLit215, .fixedLit216, .fixedLit217, .fixedLit218, .fixedLit219,
   .fixedLit220, .fixedLit221, .fixedLit222, .fixedLit223]

/-- The codewords of the fixed literal/length table, in symbol order (R74): rows 224 to 255. -/
def fixedLLRows7 : List Instr :=
  [.fixedLit224, .fixedLit225, .fixedLit226, .fixedLit227, .fixedLit228, .fixedLit229, .fixedLit230,
   .fixedLit231, .fixedLit232, .fixedLit233, .fixedLit234, .fixedLit235, .fixedLit236, .fixedLit237,
   .fixedLit238, .fixedLit239, .fixedLit240, .fixedLit241, .fixedLit242, .fixedLit243, .fixedLit244,
   .fixedLit245, .fixedLit246, .fixedLit247, .fixedLit248, .fixedLit249, .fixedLit250, .fixedLit251,
   .fixedLit252, .fixedLit253, .fixedLit254, .fixedLit255]

/-- The codewords of the fixed literal/length table, in symbol order (R74): rows 256 to 287. -/
def fixedLLRows8 : List Instr :=
  [.fixedEob, .fixedLsym257, .fixedLsym258, .fixedLsym259, .fixedLsym260, .fixedLsym261, .fixedLsym262,
   .fixedLsym263, .fixedLsym264, .fixedLsym265, .fixedLsym266, .fixedLsym267, .fixedLsym268, .fixedLsym269,
   .fixedLsym270, .fixedLsym271, .fixedLsym272, .fixedLsym273, .fixedLsym274, .fixedLsym275, .fixedLsym276,
   .fixedLsym277, .fixedLsym278, .fixedLsym279, .fixedLsym280, .fixedLsym281, .fixedLsym282, .fixedLsym283,
   .fixedLsym284, .fixedLsym285, .fixedLsym286, .fixedLsym287]

/-- The codewords of the fixed literal/length table, in symbol order (R74). -/
def fixedLLRows : List Instr :=
  fixedLLRows0 ++ fixedLLRows1 ++ fixedLLRows2 ++ fixedLLRows3 ++ fixedLLRows4 ++ fixedLLRows5 ++ fixedLLRows6 ++ fixedLLRows7 ++ fixedLLRows8

/-- The codewords of the fixed distance table, in symbol order (R74) -/
def fixedDRows : List Instr :=
  [.fixedDsym0, .fixedDsym1, .fixedDsym2, .fixedDsym3, .fixedDsym4, .fixedDsym5, .fixedDsym6, .fixedDsym7,
   .fixedDsym8, .fixedDsym9, .fixedDsym10, .fixedDsym11, .fixedDsym12, .fixedDsym13, .fixedDsym14,
   .fixedDsym15, .fixedDsym16, .fixedDsym17, .fixedDsym18, .fixedDsym19, .fixedDsym20, .fixedDsym21,
   .fixedDsym22, .fixedDsym23, .fixedDsym24, .fixedDsym25, .fixedDsym26, .fixedDsym27, .fixedDsym28,
   .fixedDsym29, .fixedDsym30, .fixedDsym31]

/-- The nineteen 3-bit groups of a preamble, by group index (R72). -/
def groupRow (group v : Nat) : Except Reject Instr :=
  match group with
  | 0 => .ok (.preCll0 v)
  | 1 => .ok (.preCll1 v)
  | 2 => .ok (.preCll2 v)
  | 3 => .ok (.preCll3 v)
  | 4 => .ok (.preCll4 v)
  | 5 => .ok (.preCll5 v)
  | 6 => .ok (.preCll6 v)
  | 7 => .ok (.preCll7 v)
  | 8 => .ok (.preCll8 v)
  | 9 => .ok (.preCll9 v)
  | 10 => .ok (.preCll10 v)
  | 11 => .ok (.preCll11 v)
  | 12 => .ok (.preCll12 v)
  | 13 => .ok (.preCll13 v)
  | 14 => .ok (.preCll14 v)
  | 15 => .ok (.preCll15 v)
  | 16 => .ok (.preCll16 v)
  | 17 => .ok (.preCll17 v)
  | 18 => .ok (.preCll18 v)
  | _ => .error .noSuchGroup

/-- The instruction of row `n` of `rows`, or the reason there is none. -/
def rowOr (rows : List Instr) (n : Nat) (why : Reject) : Except Reject Instr :=
  match rows[n]? with
  | some i => .ok i
  | none => .error why

/-- The symbol whose codeword in the fixed literal/length table has this key (the table of R74). -/
def fixedLLSymbolOfKey (key : Nat) : Option Nat :=
  if 128 ≤ key ∧ key ≤ 151 then some (key - 128 + 256)
  else if 304 ≤ key ∧ key ≤ 447 then some (key - 304)
  else if 448 ≤ key ∧ key ≤ 455 then some (key - 448 + 280)
  else if 912 ≤ key ∧ key ≤ 1023 then some (key - 912 + 144)
  else none

/-- The symbol whose codeword in the fixed distance table has this key (the table of R74). -/
def fixedDSymbolOfKey (key : Nat) : Option Nat :=
  if 32 ≤ key ∧ key ≤ 63 then some (key - 32) else none

/-- A block header, read as `final + 2 * type` (R64, R65). -/
def decodeHeader (w : Nat) : Except Reject Instr :=
  match w / 2 with
  | 0 => .ok (.hdrStored (w % 2 == 1))
  | 1 => .ok (.hdrFixed (w % 2 == 1))
  | 2 => .ok (.hdrDynamic (w % 2 == 1))
  | 3 => .ok (.hdrReserved (w % 2 == 1))
  | _ => .error .notAHeader

/-- A literal/length symbol (R69). -/
def decodeLiteralLength (w : Nat) : Except Reject Instr :=
  if w < 256 then .ok (.lit w)
  else if w = 256 then .ok .eob
  else rowOr lengthRows (w - 257) .noLiteralLength

/-- A field of `width` bits, as the operand of `mk`. -/
def decodeField (width : Nat) (mk : Nat → Instr) (why : Reject) (w : Nat) : Except Reject Instr :=
  if w < 2 ^ width then .ok (mk w) else .error why

/-- A stream element of the given format. Padding bits may have any value and are not looked at (R48, R66). -/
def decodeElement (f : Format) (w : Nat) : Except Reject Instr :=
  match f with
  | .hdr => decodeHeader w
  | .storedPad => .ok .storedPad
  | .storedLen => decodeField 16 .storedLen .lenTooWide w
  | .storedNlen => decodeField 16 .storedNlen .nlenTooWide w
  | .storedData => decodeField 8 .storedData .dataTooWide w
  | .llSymbol => decodeLiteralLength w
  | .dSymbol => rowOr distanceRows w .noDistance
  | .preHlit => decodeField 5 .preHlit .countTooWide w
  | .preHdist => decodeField 5 .preHdist .countTooWide w
  | .preHclen => decodeField 4 .preHclen .countTooWide w
  | .preCll group => if w < 8 then groupRow group w else .error .groupTooWide
  | .clSymbol => rowOr codeLengthRows w .noCodeLength
  | .fixedLL =>
    match fixedLLSymbolOfKey w with
    | some s => rowOr fixedLLRows s .noFixedLiteralKey
    | none => .error .noFixedLiteralKey
  | .fixedD =>
    match fixedDSymbolOfKey w with
    | some s => rowOr fixedDRows s .noFixedDistanceKey
    | none => .error .noFixedDistanceKey

/-- Decoding, of commands and of stream elements. -/
def decode (e : Encoded) : Except Reject Instr :=
  match e with
  | .command c => .ok (decodeCommand c)
  | .element f w => decodeElement f w

/-- A command word with the given code and operands; operands a command does not use are 0 (R61). -/
def commandWord (op : Nat) (a b c : Int) : Encoded :=
  .command ⟨BitVec.ofNat 4 op, BitVec.ofInt 32 a, BitVec.ofInt 32 b, BitVec.ofInt 32 c⟩

/-- A header as one number, `final + 2 * type` (R64). -/
def headerWord (type : Nat) (final : Bool) : Encoded := .element .hdr (final.toNat + 2 * type)

/-- The encoding of an instruction: its operation code (R62), or its format and the number of its row. -/
def encode (i : Instr) : Encoded :=
  match i with
  | .reset => commandWord 0 0 0 0
  | .brPos => commandWord 1 0 0 0
  | .brTry => commandWord 2 0 0 0
  | .brRdu n => commandWord 3 n 0 0
  | .hcBld slot base count => commandWord 4 slot base count
  | .hcDec slot => commandWord 5 slot 0 0
  | .swApp byte => commandWord 6 byte 0 0
  | .swCpy distance length => commandWord 7 distance length 0
  | .bdRun => commandWord 8 0 0 0
  | .lbSet index value => commandWord 9 index value 0
  | .csrRd number => commandWord 10 number 0 0
  | .reserved11 => commandWord 11 0 0 0
  | .reserved12 => commandWord 12 0 0 0
  | .reserved13 => commandWord 13 0 0 0
  | .reserved14 => commandWord 14 0 0 0
  | .reserved15 => commandWord 15 0 0 0
  | .hdrStored final => headerWord 0 final
  | .hdrFixed final => headerWord 1 final
  | .hdrDynamic final => headerWord 2 final
  | .hdrReserved final => headerWord 3 final
  | .storedPad => .element .storedPad 0
  | .storedLen len => .element .storedLen len
  | .storedNlen nlen => .element .storedNlen nlen
  | .storedData byte => .element .storedData byte
  | .lit byte => .element .llSymbol byte
  | .eob => .element .llSymbol 256
  | .lsym257 => .element .llSymbol 257
  | .lsym258 => .element .llSymbol 258
  | .lsym259 => .element .llSymbol 259
  | .lsym260 => .element .llSymbol 260
  | .lsym261 => .element .llSymbol 261
  | .lsym262 => .element .llSymbol 262
  | .lsym263 => .element .llSymbol 263
  | .lsym264 => .element .llSymbol 264
  | .lsym265 => .element .llSymbol 265
  | .lsym266 => .element .llSymbol 266
  | .lsym267 => .element .llSymbol 267
  | .lsym268 => .element .llSymbol 268
  | .lsym269 => .element .llSymbol 269
  | .lsym270 => .element .llSymbol 270
  | .lsym271 => .element .llSymbol 271
  | .lsym272 => .element .llSymbol 272
  | .lsym273 => .element .llSymbol 273
  | .lsym274 => .element .llSymbol 274
  | .lsym275 => .element .llSymbol 275
  | .lsym276 => .element .llSymbol 276
  | .lsym277 => .element .llSymbol 277
  | .lsym278 => .element .llSymbol 278
  | .lsym279 => .element .llSymbol 279
  | .lsym280 => .element .llSymbol 280
  | .lsym281 => .element .llSymbol 281
  | .lsym282 => .element .llSymbol 282
  | .lsym283 => .element .llSymbol 283
  | .lsym284 => .element .llSymbol 284
  | .lsym285 => .element .llSymbol 285
  | .lsym286 => .element .llSymbol 286
  | .lsym287 => .element .llSymbol 287
  | .dsym0 => .element .dSymbol 0
  | .dsym1 => .element .dSymbol 1
  | .dsym2 => .element .dSymbol 2
  | .dsym3 => .element .dSymbol 3
  | .dsym4 => .element .dSymbol 4
  | .dsym5 => .element .dSymbol 5
  | .dsym6 => .element .dSymbol 6
  | .dsym7 => .element .dSymbol 7
  | .dsym8 => .element .dSymbol 8
  | .dsym9 => .element .dSymbol 9
  | .dsym10 => .element .dSymbol 10
  | .dsym11 => .element .dSymbol 11
  | .dsym12 => .element .dSymbol 12
  | .dsym13 => .element .dSymbol 13
  | .dsym14 => .element .dSymbol 14
  | .dsym15 => .element .dSymbol 15
  | .dsym16 => .element .dSymbol 16
  | .dsym17 => .element .dSymbol 17
  | .dsym18 => .element .dSymbol 18
  | .dsym19 => .element .dSymbol 19
  | .dsym20 => .element .dSymbol 20
  | .dsym21 => .element .dSymbol 21
  | .dsym22 => .element .dSymbol 22
  | .dsym23 => .element .dSymbol 23
  | .dsym24 => .element .dSymbol 24
  | .dsym25 => .element .dSymbol 25
  | .dsym26 => .element .dSymbol 26
  | .dsym27 => .element .dSymbol 27
  | .dsym28 => .element .dSymbol 28
  | .dsym29 => .element .dSymbol 29
  | .dsym30 => .element .dSymbol 30
  | .dsym31 => .element .dSymbol 31
  | .preHlit h => .element .preHlit h
  | .preHdist d => .element .preHdist d
  | .preHclen c => .element .preHclen c
  | .preCll0 v => .element (.preCll 0) v
  | .preCll1 v => .element (.preCll 1) v
  | .preCll2 v => .element (.preCll 2) v
  | .preCll3 v => .element (.preCll 3) v
  | .preCll4 v => .element (.preCll 4) v
  | .preCll5 v => .element (.preCll 5) v
  | .preCll6 v => .element (.preCll 6) v
  | .preCll7 v => .element (.preCll 7) v
  | .preCll8 v => .element (.preCll 8) v
  | .preCll9 v => .element (.preCll 9) v
  | .preCll10 v => .element (.preCll 10) v
  | .preCll11 v => .element (.preCll 11) v
  | .preCll12 v => .element (.preCll 12) v
  | .preCll13 v => .element (.preCll 13) v
  | .preCll14 v => .element (.preCll 14) v
  | .preCll15 v => .element (.preCll 15) v
  | .preCll16 v => .element (.preCll 16) v
  | .preCll17 v => .element (.preCll 17) v
  | .preCll18 v => .element (.preCll 18) v
  | .clsym0 => .element .clSymbol 0
  | .clsym1 => .element .clSymbol 1
  | .clsym2 => .element .clSymbol 2
  | .clsym3 => .element .clSymbol 3
  | .clsym4 => .element .clSymbol 4
  | .clsym5 => .element .clSymbol 5
  | .clsym6 => .element .clSymbol 6
  | .clsym7 => .element .clSymbol 7
  | .clsym8 => .element .clSymbol 8
  | .clsym9 => .element .clSymbol 9
  | .clsym10 => .element .clSymbol 10
  | .clsym11 => .element .clSymbol 11
  | .clsym12 => .element .clSymbol 12
  | .clsym13 => .element .clSymbol 13
  | .clsym14 => .element .clSymbol 14
  | .clsym15 => .element .clSymbol 15
  | .clsym16 => .element .clSymbol 16
  | .clsym17 => .element .clSymbol 17
  | .clsym18 => .element .clSymbol 18
  | .fixedLit0 => .element .fixedLL 304
  | .fixedLit1 => .element .fixedLL 305
  | .fixedLit2 => .element .fixedLL 306
  | .fixedLit3 => .element .fixedLL 307
  | .fixedLit4 => .element .fixedLL 308
  | .fixedLit5 => .element .fixedLL 309
  | .fixedLit6 => .element .fixedLL 310
  | .fixedLit7 => .element .fixedLL 311
  | .fixedLit8 => .element .fixedLL 312
  | .fixedLit9 => .element .fixedLL 313
  | .fixedLit10 => .element .fixedLL 314
  | .fixedLit11 => .element .fixedLL 315
  | .fixedLit12 => .element .fixedLL 316
  | .fixedLit13 => .element .fixedLL 317
  | .fixedLit14 => .element .fixedLL 318
  | .fixedLit15 => .element .fixedLL 319
  | .fixedLit16 => .element .fixedLL 320
  | .fixedLit17 => .element .fixedLL 321
  | .fixedLit18 => .element .fixedLL 322
  | .fixedLit19 => .element .fixedLL 323
  | .fixedLit20 => .element .fixedLL 324
  | .fixedLit21 => .element .fixedLL 325
  | .fixedLit22 => .element .fixedLL 326
  | .fixedLit23 => .element .fixedLL 327
  | .fixedLit24 => .element .fixedLL 328
  | .fixedLit25 => .element .fixedLL 329
  | .fixedLit26 => .element .fixedLL 330
  | .fixedLit27 => .element .fixedLL 331
  | .fixedLit28 => .element .fixedLL 332
  | .fixedLit29 => .element .fixedLL 333
  | .fixedLit30 => .element .fixedLL 334
  | .fixedLit31 => .element .fixedLL 335
  | .fixedLit32 => .element .fixedLL 336
  | .fixedLit33 => .element .fixedLL 337
  | .fixedLit34 => .element .fixedLL 338
  | .fixedLit35 => .element .fixedLL 339
  | .fixedLit36 => .element .fixedLL 340
  | .fixedLit37 => .element .fixedLL 341
  | .fixedLit38 => .element .fixedLL 342
  | .fixedLit39 => .element .fixedLL 343
  | .fixedLit40 => .element .fixedLL 344
  | .fixedLit41 => .element .fixedLL 345
  | .fixedLit42 => .element .fixedLL 346
  | .fixedLit43 => .element .fixedLL 347
  | .fixedLit44 => .element .fixedLL 348
  | .fixedLit45 => .element .fixedLL 349
  | .fixedLit46 => .element .fixedLL 350
  | .fixedLit47 => .element .fixedLL 351
  | .fixedLit48 => .element .fixedLL 352
  | .fixedLit49 => .element .fixedLL 353
  | .fixedLit50 => .element .fixedLL 354
  | .fixedLit51 => .element .fixedLL 355
  | .fixedLit52 => .element .fixedLL 356
  | .fixedLit53 => .element .fixedLL 357
  | .fixedLit54 => .element .fixedLL 358
  | .fixedLit55 => .element .fixedLL 359
  | .fixedLit56 => .element .fixedLL 360
  | .fixedLit57 => .element .fixedLL 361
  | .fixedLit58 => .element .fixedLL 362
  | .fixedLit59 => .element .fixedLL 363
  | .fixedLit60 => .element .fixedLL 364
  | .fixedLit61 => .element .fixedLL 365
  | .fixedLit62 => .element .fixedLL 366
  | .fixedLit63 => .element .fixedLL 367
  | .fixedLit64 => .element .fixedLL 368
  | .fixedLit65 => .element .fixedLL 369
  | .fixedLit66 => .element .fixedLL 370
  | .fixedLit67 => .element .fixedLL 371
  | .fixedLit68 => .element .fixedLL 372
  | .fixedLit69 => .element .fixedLL 373
  | .fixedLit70 => .element .fixedLL 374
  | .fixedLit71 => .element .fixedLL 375
  | .fixedLit72 => .element .fixedLL 376
  | .fixedLit73 => .element .fixedLL 377
  | .fixedLit74 => .element .fixedLL 378
  | .fixedLit75 => .element .fixedLL 379
  | .fixedLit76 => .element .fixedLL 380
  | .fixedLit77 => .element .fixedLL 381
  | .fixedLit78 => .element .fixedLL 382
  | .fixedLit79 => .element .fixedLL 383
  | .fixedLit80 => .element .fixedLL 384
  | .fixedLit81 => .element .fixedLL 385
  | .fixedLit82 => .element .fixedLL 386
  | .fixedLit83 => .element .fixedLL 387
  | .fixedLit84 => .element .fixedLL 388
  | .fixedLit85 => .element .fixedLL 389
  | .fixedLit86 => .element .fixedLL 390
  | .fixedLit87 => .element .fixedLL 391
  | .fixedLit88 => .element .fixedLL 392
  | .fixedLit89 => .element .fixedLL 393
  | .fixedLit90 => .element .fixedLL 394
  | .fixedLit91 => .element .fixedLL 395
  | .fixedLit92 => .element .fixedLL 396
  | .fixedLit93 => .element .fixedLL 397
  | .fixedLit94 => .element .fixedLL 398
  | .fixedLit95 => .element .fixedLL 399
  | .fixedLit96 => .element .fixedLL 400
  | .fixedLit97 => .element .fixedLL 401
  | .fixedLit98 => .element .fixedLL 402
  | .fixedLit99 => .element .fixedLL 403
  | .fixedLit100 => .element .fixedLL 404
  | .fixedLit101 => .element .fixedLL 405
  | .fixedLit102 => .element .fixedLL 406
  | .fixedLit103 => .element .fixedLL 407
  | .fixedLit104 => .element .fixedLL 408
  | .fixedLit105 => .element .fixedLL 409
  | .fixedLit106 => .element .fixedLL 410
  | .fixedLit107 => .element .fixedLL 411
  | .fixedLit108 => .element .fixedLL 412
  | .fixedLit109 => .element .fixedLL 413
  | .fixedLit110 => .element .fixedLL 414
  | .fixedLit111 => .element .fixedLL 415
  | .fixedLit112 => .element .fixedLL 416
  | .fixedLit113 => .element .fixedLL 417
  | .fixedLit114 => .element .fixedLL 418
  | .fixedLit115 => .element .fixedLL 419
  | .fixedLit116 => .element .fixedLL 420
  | .fixedLit117 => .element .fixedLL 421
  | .fixedLit118 => .element .fixedLL 422
  | .fixedLit119 => .element .fixedLL 423
  | .fixedLit120 => .element .fixedLL 424
  | .fixedLit121 => .element .fixedLL 425
  | .fixedLit122 => .element .fixedLL 426
  | .fixedLit123 => .element .fixedLL 427
  | .fixedLit124 => .element .fixedLL 428
  | .fixedLit125 => .element .fixedLL 429
  | .fixedLit126 => .element .fixedLL 430
  | .fixedLit127 => .element .fixedLL 431
  | .fixedLit128 => .element .fixedLL 432
  | .fixedLit129 => .element .fixedLL 433
  | .fixedLit130 => .element .fixedLL 434
  | .fixedLit131 => .element .fixedLL 435
  | .fixedLit132 => .element .fixedLL 436
  | .fixedLit133 => .element .fixedLL 437
  | .fixedLit134 => .element .fixedLL 438
  | .fixedLit135 => .element .fixedLL 439
  | .fixedLit136 => .element .fixedLL 440
  | .fixedLit137 => .element .fixedLL 441
  | .fixedLit138 => .element .fixedLL 442
  | .fixedLit139 => .element .fixedLL 443
  | .fixedLit140 => .element .fixedLL 444
  | .fixedLit141 => .element .fixedLL 445
  | .fixedLit142 => .element .fixedLL 446
  | .fixedLit143 => .element .fixedLL 447
  | .fixedLit144 => .element .fixedLL 912
  | .fixedLit145 => .element .fixedLL 913
  | .fixedLit146 => .element .fixedLL 914
  | .fixedLit147 => .element .fixedLL 915
  | .fixedLit148 => .element .fixedLL 916
  | .fixedLit149 => .element .fixedLL 917
  | .fixedLit150 => .element .fixedLL 918
  | .fixedLit151 => .element .fixedLL 919
  | .fixedLit152 => .element .fixedLL 920
  | .fixedLit153 => .element .fixedLL 921
  | .fixedLit154 => .element .fixedLL 922
  | .fixedLit155 => .element .fixedLL 923
  | .fixedLit156 => .element .fixedLL 924
  | .fixedLit157 => .element .fixedLL 925
  | .fixedLit158 => .element .fixedLL 926
  | .fixedLit159 => .element .fixedLL 927
  | .fixedLit160 => .element .fixedLL 928
  | .fixedLit161 => .element .fixedLL 929
  | .fixedLit162 => .element .fixedLL 930
  | .fixedLit163 => .element .fixedLL 931
  | .fixedLit164 => .element .fixedLL 932
  | .fixedLit165 => .element .fixedLL 933
  | .fixedLit166 => .element .fixedLL 934
  | .fixedLit167 => .element .fixedLL 935
  | .fixedLit168 => .element .fixedLL 936
  | .fixedLit169 => .element .fixedLL 937
  | .fixedLit170 => .element .fixedLL 938
  | .fixedLit171 => .element .fixedLL 939
  | .fixedLit172 => .element .fixedLL 940
  | .fixedLit173 => .element .fixedLL 941
  | .fixedLit174 => .element .fixedLL 942
  | .fixedLit175 => .element .fixedLL 943
  | .fixedLit176 => .element .fixedLL 944
  | .fixedLit177 => .element .fixedLL 945
  | .fixedLit178 => .element .fixedLL 946
  | .fixedLit179 => .element .fixedLL 947
  | .fixedLit180 => .element .fixedLL 948
  | .fixedLit181 => .element .fixedLL 949
  | .fixedLit182 => .element .fixedLL 950
  | .fixedLit183 => .element .fixedLL 951
  | .fixedLit184 => .element .fixedLL 952
  | .fixedLit185 => .element .fixedLL 953
  | .fixedLit186 => .element .fixedLL 954
  | .fixedLit187 => .element .fixedLL 955
  | .fixedLit188 => .element .fixedLL 956
  | .fixedLit189 => .element .fixedLL 957
  | .fixedLit190 => .element .fixedLL 958
  | .fixedLit191 => .element .fixedLL 959
  | .fixedLit192 => .element .fixedLL 960
  | .fixedLit193 => .element .fixedLL 961
  | .fixedLit194 => .element .fixedLL 962
  | .fixedLit195 => .element .fixedLL 963
  | .fixedLit196 => .element .fixedLL 964
  | .fixedLit197 => .element .fixedLL 965
  | .fixedLit198 => .element .fixedLL 966
  | .fixedLit199 => .element .fixedLL 967
  | .fixedLit200 => .element .fixedLL 968
  | .fixedLit201 => .element .fixedLL 969
  | .fixedLit202 => .element .fixedLL 970
  | .fixedLit203 => .element .fixedLL 971
  | .fixedLit204 => .element .fixedLL 972
  | .fixedLit205 => .element .fixedLL 973
  | .fixedLit206 => .element .fixedLL 974
  | .fixedLit207 => .element .fixedLL 975
  | .fixedLit208 => .element .fixedLL 976
  | .fixedLit209 => .element .fixedLL 977
  | .fixedLit210 => .element .fixedLL 978
  | .fixedLit211 => .element .fixedLL 979
  | .fixedLit212 => .element .fixedLL 980
  | .fixedLit213 => .element .fixedLL 981
  | .fixedLit214 => .element .fixedLL 982
  | .fixedLit215 => .element .fixedLL 983
  | .fixedLit216 => .element .fixedLL 984
  | .fixedLit217 => .element .fixedLL 985
  | .fixedLit218 => .element .fixedLL 986
  | .fixedLit219 => .element .fixedLL 987
  | .fixedLit220 => .element .fixedLL 988
  | .fixedLit221 => .element .fixedLL 989
  | .fixedLit222 => .element .fixedLL 990
  | .fixedLit223 => .element .fixedLL 991
  | .fixedLit224 => .element .fixedLL 992
  | .fixedLit225 => .element .fixedLL 993
  | .fixedLit226 => .element .fixedLL 994
  | .fixedLit227 => .element .fixedLL 995
  | .fixedLit228 => .element .fixedLL 996
  | .fixedLit229 => .element .fixedLL 997
  | .fixedLit230 => .element .fixedLL 998
  | .fixedLit231 => .element .fixedLL 999
  | .fixedLit232 => .element .fixedLL 1000
  | .fixedLit233 => .element .fixedLL 1001
  | .fixedLit234 => .element .fixedLL 1002
  | .fixedLit235 => .element .fixedLL 1003
  | .fixedLit236 => .element .fixedLL 1004
  | .fixedLit237 => .element .fixedLL 1005
  | .fixedLit238 => .element .fixedLL 1006
  | .fixedLit239 => .element .fixedLL 1007
  | .fixedLit240 => .element .fixedLL 1008
  | .fixedLit241 => .element .fixedLL 1009
  | .fixedLit242 => .element .fixedLL 1010
  | .fixedLit243 => .element .fixedLL 1011
  | .fixedLit244 => .element .fixedLL 1012
  | .fixedLit245 => .element .fixedLL 1013
  | .fixedLit246 => .element .fixedLL 1014
  | .fixedLit247 => .element .fixedLL 1015
  | .fixedLit248 => .element .fixedLL 1016
  | .fixedLit249 => .element .fixedLL 1017
  | .fixedLit250 => .element .fixedLL 1018
  | .fixedLit251 => .element .fixedLL 1019
  | .fixedLit252 => .element .fixedLL 1020
  | .fixedLit253 => .element .fixedLL 1021
  | .fixedLit254 => .element .fixedLL 1022
  | .fixedLit255 => .element .fixedLL 1023
  | .fixedEob => .element .fixedLL 128
  | .fixedLsym257 => .element .fixedLL 129
  | .fixedLsym258 => .element .fixedLL 130
  | .fixedLsym259 => .element .fixedLL 131
  | .fixedLsym260 => .element .fixedLL 132
  | .fixedLsym261 => .element .fixedLL 133
  | .fixedLsym262 => .element .fixedLL 134
  | .fixedLsym263 => .element .fixedLL 135
  | .fixedLsym264 => .element .fixedLL 136
  | .fixedLsym265 => .element .fixedLL 137
  | .fixedLsym266 => .element .fixedLL 138
  | .fixedLsym267 => .element .fixedLL 139
  | .fixedLsym268 => .element .fixedLL 140
  | .fixedLsym269 => .element .fixedLL 141
  | .fixedLsym270 => .element .fixedLL 142
  | .fixedLsym271 => .element .fixedLL 143
  | .fixedLsym272 => .element .fixedLL 144
  | .fixedLsym273 => .element .fixedLL 145
  | .fixedLsym274 => .element .fixedLL 146
  | .fixedLsym275 => .element .fixedLL 147
  | .fixedLsym276 => .element .fixedLL 148
  | .fixedLsym277 => .element .fixedLL 149
  | .fixedLsym278 => .element .fixedLL 150
  | .fixedLsym279 => .element .fixedLL 151
  | .fixedLsym280 => .element .fixedLL 448
  | .fixedLsym281 => .element .fixedLL 449
  | .fixedLsym282 => .element .fixedLL 450
  | .fixedLsym283 => .element .fixedLL 451
  | .fixedLsym284 => .element .fixedLL 452
  | .fixedLsym285 => .element .fixedLL 453
  | .fixedLsym286 => .element .fixedLL 454
  | .fixedLsym287 => .element .fixedLL 455
  | .fixedDsym0 => .element .fixedD 32
  | .fixedDsym1 => .element .fixedD 33
  | .fixedDsym2 => .element .fixedD 34
  | .fixedDsym3 => .element .fixedD 35
  | .fixedDsym4 => .element .fixedD 36
  | .fixedDsym5 => .element .fixedD 37
  | .fixedDsym6 => .element .fixedD 38
  | .fixedDsym7 => .element .fixedD 39
  | .fixedDsym8 => .element .fixedD 40
  | .fixedDsym9 => .element .fixedD 41
  | .fixedDsym10 => .element .fixedD 42
  | .fixedDsym11 => .element .fixedD 43
  | .fixedDsym12 => .element .fixedD 44
  | .fixedDsym13 => .element .fixedD 45
  | .fixedDsym14 => .element .fixedD 46
  | .fixedDsym15 => .element .fixedD 47
  | .fixedDsym16 => .element .fixedD 48
  | .fixedDsym17 => .element .fixedD 49
  | .fixedDsym18 => .element .fixedD 50
  | .fixedDsym19 => .element .fixedD 51
  | .fixedDsym20 => .element .fixedD 52
  | .fixedDsym21 => .element .fixedD 53
  | .fixedDsym22 => .element .fixedD 54
  | .fixedDsym23 => .element .fixedD 55
  | .fixedDsym24 => .element .fixedD 56
  | .fixedDsym25 => .element .fixedD 57
  | .fixedDsym26 => .element .fixedD 58
  | .fixedDsym27 => .element .fixedD 59
  | .fixedDsym28 => .element .fixedD 60
  | .fixedDsym29 => .element .fixedD 61
  | .fixedDsym30 => .element .fixedD 62
  | .fixedDsym31 => .element .fixedD 63

/-- How a number of spec/opcode_table.json is read when only its bits are given. The table numbers every format from
bit 0, so rows of different formats share numbers; one reading is fixed here (notes/assumptions/12.md): up to 8 bits,
0 to 15 is an operation code (R62) with operands 0, 16 to 31 a distance symbol, 32 to 63 a key of the fixed distance
table, 128 to 151 a key of the fixed literal/length table; up to 16 bits, 0 to 287 is a literal/length symbol and a
larger number a key of the fixed literal/length table; wider numbers are distance symbols. -/
def tableEncoded (nbits w : Nat) : Encoded :=
  if nbits ≤ 8 then
    if w < 16 then .command ⟨BitVec.ofNat 4 w, 0, 0, 0⟩
    else if w < 32 then .element .dSymbol w
    else if w < 64 then .element .fixedD w
    else .element .fixedLL w
  else if nbits ≤ 16 then
    if w < 288 then .element .llSymbol w else .element .fixedLL w
  else .element .dSymbol (w % 32)

/-- The instruction the decoder reads from a number of spec/opcode_table.json. -/
def decodeTableWord (nbits w : Nat) : Option Instr := (decode (tableEncoded nbits w)).toOption

end Sys2Proof
end

