-- ==== Sys2Proof/Machine/Fetch.lean ====
section
/-! DEFINITION. Fetching: which instruction comes next, and the state in which it runs. While no BD.RUN is in progress it
is the oldest command the host presents (spec/30_encoding.md R61); inside a BD.RUN it is the stream element at POS, whose
format follows from the block decoder's place in the stream (R68). Fetching an element moves POS behind it. -/

namespace Sys2Proof.Machine

/-- What a fetch finds. -/
inductive Fetched
  | wait                                -- no command is presented
  | instr (i : Instr) (s : State)       -- an instruction, and the state in which it runs
  | fault (k : FaultKind)               -- the fetch itself raises a fault

/-- The fault of a number the decoder rejects. Fields cannot be rejected, they are read with their width; a distance
symbol above 31 raises ReservedDistanceSymbol (R70); any other decoded value is treated as CorruptSymbol (R159, R193). -/
def rejectFault (r : Reject) : FaultKind :=
  match r with
  | .noDistance => .reservedDistanceSymbol
  | _ => .corruptSymbol

/-- The instruction an encoding stands for, to run in state `t`. -/
def deliver (e : Encoded) (t : State) : Fetched :=
  match decode e with
  | .ok i => .instr i t
  | .error r => .fault (rejectFault r)

/-- Fetch a field of `n` bits (R43). -/
def fetchField (s : State) (f : Format) (n : Nat) : Fetched :=
  match s.readUint n with
  | .ok (w, t) => deliver (.element f w) t
  | .error k => .fault k

/-- Fetch a codeword and deliver its symbol (R112). -/
def fetchSymbol (s : State) (f : Format) (tbl : Table) : Fetched :=
  match s.decodeSymbol tbl with
  | .ok (_, sym, t) => deliver (.element f sym) t
  | .error k => .fault k

/-- Fetch a codeword of a fixed table and deliver its key, which names its row (R74). -/
def fetchKey (s : State) (f : Format) (tbl : Table) : Fetched :=
  match s.decodeSymbol tbl with
  | .ok (key, _, t) => deliver (.element f key) t
  | .error k => .fault k

/-- The next instruction. -/
def fetch (s : State) : Fetched :=
  match s.phase with
  | .idle =>
    match s.port with
    | [] => .wait
    | c :: rest => deliver (.command c) { s with port := rest }
  | .header => fetchField s .hdr 3
  | .storedPad => deliver (.element .storedPad 0) s
  | .storedLen => fetchField s .storedLen 16
  | .storedNlen _ => fetchField s .storedNlen 16
  | .storedData _ => fetchField s .storedData 8
  | .preHlit => fetchField s .preHlit 5
  | .preHdist => fetchField s .preHdist 5
  | .preHclen => fetchField s .preHclen 4
  | .preCll group => fetchField s (.preCll group) 3
  | .codeLength => fetchSymbol s .clSymbol (s.tblClc.getD [])
  | .symbol =>
    if s.bdState = .fixedHuffmanBlock then fetchKey s .fixedLL s.tableInForce
    else fetchSymbol s .llSymbol s.tableInForce
  | .distance _ =>
    if s.bdState = .fixedHuffmanBlock then fetchKey s .fixedD s.distanceTableInForce
    else fetchSymbol s .dSymbol s.distanceTableInForce

/-! ### Placing an instruction where it is fetched next -/

/-- The low `count` bytes of `v`, low byte first (R45). -/
def bytesOf (v count : Nat) : List Byte :=
  match count with
  | 0 => []
  | count + 1 => BitVec.ofNat 8 v :: bytesOf (v / 256) count

/-- The `n` low bits of `key` in reversed order: a codeword's most significant bit is read first (R44, R67). -/
def reverseBits (n key : Nat) : Nat :=
  match n with
  | 0 => 0
  | n + 1 => (key % 2) * 2 ^ n + reverseBits n (key / 2)

/-- The length of the codeword of a key of the fixed tables (R74). -/
def fixedKeyLength (key : Nat) : Nat :=
  if key < 64 then 5 else if key < 256 then 7 else if key < 512 then 8 else 9

/-- The table Build gives for two symbols of length 1, the symbol `sym` and symbol 0 (or 1 when `sym` is 0). -/
def twoSymbolTable (sym : Nat) : Table := [(2, 0), (3, if sym = 0 then 1 else sym)]

/-- `s` with the bits of `v` at the start of IN, zeros behind them, and POS there. -/
def State.withStream (s : State) (v : Nat) : State := { s with inp := bytesOf v 8, pos := 0 }

/-- `s` with one stream element in IN where the next step reads it: the bits, the block decoder's place, and for a symbol
of a dynamic block a table that has it. Zeros follow, for extra bits. -/
def State.withElement (s : State) (f : Format) (w : Nat) : State :=
  match f with
  | .hdr => (s.withStream w).enter .readingBlockHeader .header
  | .storedPad => (s.withStream w).enter .storedBlock .storedPad
  | .storedLen => (s.withStream w).enter .storedBlock .storedLen
  | .storedNlen => (s.withStream w).enter .storedBlock (.storedNlen 0xFFFF)
  | .storedData => (s.withStream w).enter .storedBlock (.storedData 1)
  | .preHlit => (s.withStream w).enter .dynamicHuffmanBlock .preHlit
  | .preHdist => (s.withStream w).enter .dynamicHuffmanBlock .preHdist
  | .preHclen => (s.withStream w).enter .dynamicHuffmanBlock .preHclen
  | .preCll group => (s.withStream w).enter .dynamicHuffmanBlock (.preCll group)
  | .clSymbol =>
    { s.withStream (if w = 0 then 0 else 1) with tblClc := some (twoSymbolTable w) }.enter .dynamicHuffmanBlock .codeLength
  | .llSymbol =>
    { s.withStream (if w = 0 then 0 else 1) with tblDynLL := some (twoSymbolTable w) }.enter .dynamicHuffmanBlock .symbol
  | .dSymbol =>
    { s.withStream (if w = 0 then 0 else 1) with tblDynD := some (twoSymbolTable w), distPresent := true }.enter
      .dynamicHuffmanBlock (.distance 3)
  | .fixedLL =>
    { s.withStream (reverseBits (fixedKeyLength w) w) with distPresent := true }.enter .fixedHuffmanBlock .symbol
  | .fixedD =>
    { s.withStream (reverseBits (fixedKeyLength w) w) with distPresent := true }.enter .fixedHuffmanBlock (.distance 3)

/-- `s` with one encoded instruction where the next step fetches it: a command at the head of the port with no BD.RUN in
progress, or a stream element. -/
def State.withEncoded (s : State) (e : Encoded) : State :=
  match e with
  | .command c => { s with phase := .idle, port := c :: s.port }
  | .element f w => s.withElement f w

/-- A start state: the input and the commands the host supplies (spec/70_reset_and_hazards.md R263, R214). -/
def State.withHost (s : State) (inp : List Byte) (port : List Command) : State := { s with inp := inp, port := port }

end Sys2Proof.Machine
end

