-- ==== Sys2Proof/Machine/Step.lean ====
section
/-! DEFINITION. One step: fetch the next instruction and run it. With no command presented the core waits. A fault of the
fetch itself (the input ends inside the element) is taken like any other (spec/60_exceptions.md R222, R239). -/

namespace Sys2Proof.Machine

/-- One step of the machine. -/
def step (s : State) : Host.Outcome State Fault Refusal :=
  match fetch s with
  | .wait => .next s
  | .instr i t => exec i t
  | .fault k => .next (s.takeFault k)

/-- The state `s` with an instruction, given as a number of spec/opcode_table.json, where the next step fetches it
(notes/assumptions/2.md, notes/assumptions/12.md). -/
def State.withFetchWord (s : State) (nbits w : Nat) : State := s.withEncoded (tableEncoded nbits w)

end Sys2Proof.Machine
end

