-- ==== Sys2Proof/Safety.lean ====
section
/-! DEFINITION. What the claims are stated in: the invariant of the machine (the ranges of spec/10_state.md and the shape
of a run), the window's history during a run, and names for what an instruction stands for. -/

namespace Sys2Proof.Machine

/-- An instruction of the command port. -/
def isCommand (i : Instr) : Prop := ∃ c, encode i = .command c

/-- The commands that are refused, the complete list of spec/60_exceptions.md R244: codes 11 to 15; any command but RESET
and CSR.RD in FAILED; an operand outside its domain; HC.DEC on an EMPTY slot. -/
def refusable (i : Instr) (s : State) : Prop :=
  i = .reserved11 ∨ i = .reserved12 ∨ i = .reserved13 ∨ i = .reserved14 ∨ i = .reserved15 ∨
    (s.bdState = .failed ∧ i ≠ .reset ∧ ∀ n, i ≠ .csrRd n) ∨
    (∃ a b c, i = .hcBld a b c ∧ (a < 2 ∨ 4 < a ∨ b < 0 ∨ c < 0 ∨ 320 < b + c)) ∨
    (∃ a, i = .hcDec a ∧ (a < 0 ∨ 4 < a ∨ s.table a.toNat = none)) ∨
    (∃ a, i = .swApp a ∧ (a < 0 ∨ 255 < a)) ∨
    (∃ a b, i = .lbSet a b ∧ (a < 0 ∨ 319 < a ∨ b < 0 ∨ 15 < b)) ∨
    (∃ a, i = .csrRd a ∧ (a < 0 ∨ 5 < a))

/-- `i` is the row of literal/length symbol `sym`: in any Huffman block the LL_SYMBOL row, in a fixed block also the
FIXED_LL row of its codeword (spec/30_encoding.md R69, R74). -/
def standsForLiteralLength (i : Instr) (s : State) (sym : Nat) : Prop :=
  encode i = .element .llSymbol sym ∨
    (s.bdState = .fixedHuffmanBlock ∧ ∃ key, encode i = .element .fixedLL key ∧ fixedLLSymbolOfKey key = some sym)

/-- `i` is the row of distance symbol `sym`: the D_SYMBOL row, or in a fixed block the FIXED_D row (R70, R74). -/
def standsForDistance (i : Instr) (s : State) (sym : Nat) : Prop :=
  encode i = .element .dSymbol sym ∨
    (s.bdState = .fixedHuffmanBlock ∧ ∃ key, encode i = .element .fixedD key ∧ fixedDSymbolOfKey key = some sym)

/-- The `len` bits from `p` on as a codeword, the first bit most significant (spec/20_memory.md R44). -/
def codewordAt (inp : List Byte) (p len : Nat) : Nat :=
  match len with
  | 0 => 0
  | len + 1 => 2 * codewordAt inp p len + bitAt inp (p + len)

/-- The codeword of `sym` in `t` stands at POS and is `len` bits long: its key is in `t` and no shorter one is (R68). -/
def State.codewordHere (s : State) (t : Table) (len sym : Nat) : Prop :=
  1 ≤ len ∧ s.pos + len ≤ 8 * s.inLen ∧
    tableLookup t (codeKey len (codewordAt s.inp s.pos len)) = some sym ∧
    ∀ m, 1 ≤ m → m < len → tableLookup t (codeKey m (codewordAt s.inp s.pos m)) = none

/-- `sum over s with 1 <= lens[s] <= 15 of 2^(15 - lens[s])`, the code space used (spec/41_huffman.md R111). -/
def codeSpace (lens : List Nat) : Nat :=
  (lens.map fun l => if 1 ≤ l ∧ l ≤ 15 then 2 ^ (15 - l) else 0).sum

/-- A slot is EMPTY or holds a table that Build returned (R57, R15). -/
def slotBuilt (slot : Option Table) : Prop :=
  ∀ t, slot = some t → ∃ lens : List Nat, lens.length ≤ 320 ∧ (∀ l ∈ lens, l ≤ 15) ∧ build lens = .ok t

/-- Every byte at most CNT behind the cursor has been written since the window's initialisation (R18). -/
def State.windowBacked (s : State) : Prop :=
  ∀ d, 1 ≤ d → d ≤ s.cnt →
    (Memory.read s.win ((s.cur + Config.windowSize - d) % Config.windowSize)).isSome = true

/-- The block decoder in a Huffman block: the tables in force exist (R154, R23, R196). -/
def State.huffmanReady (s : State) : Prop :=
  (s.bdState = .fixedHuffmanBlock ∧ s.distPresent = true) ∨
    (s.bdState = .dynamicHuffmanBlock ∧ s.tblDynLL.isSome = true ∧ s.distPresent = s.tblDynD.isSome)

/-- STATE and the place of the next element fit (R20, R150). -/
def State.placeOk (s : State) : Prop :=
  match s.phase with
  | .idle => s.bdState = .readingBlockHeader ∨ s.bdState = .done ∨ s.bdState = .failed
  | .header => s.bdState = .readingBlockHeader
  | .storedPad => s.bdState = .storedBlock
  | .storedLen => s.bdState = .storedBlock
  | .storedNlen len => s.bdState = .storedBlock ∧ len < 65536
  | .storedData left => s.bdState = .storedBlock ∧ 0 < left ∧ left < 65536
  | .preHlit => s.bdState = .dynamicHuffmanBlock
  | .preHdist => s.bdState = .dynamicHuffmanBlock
  | .preHclen => s.bdState = .dynamicHuffmanBlock
  | .preCll group => s.bdState = .dynamicHuffmanBlock ∧ group < s.nclen
  | .codeLength => s.bdState = .dynamicHuffmanBlock ∧ s.tblClc.isSome = true ∧ s.lenCnt < s.lengthTotal
  | .symbol => s.huffmanReady
  | .distance run => s.huffmanReady ∧ s.distPresent = true ∧ 3 ≤ run ∧ run ≤ 258

/-- The invariant of the machine: every element within its range (spec/10_state.md R11, R14, R17, R18, R20 to R24), ERR
and STATE in agreement (R24), WIN's cells in canonical form, and the block decoder at a place its STATE allows. -/
structure State.Inv (s : State) : Prop where
  pos_le : s.pos ≤ 8 * s.inp.length
  fixedLL : s.tblFixedLL = fixedLLTable
  fixedD : s.tblFixedD = fixedDTable
  clc_built : slotBuilt s.tblClc
  dynLL_built : slotBuilt s.tblDynLL
  dynD_built : slotBuilt s.tblDynD
  win_wf : Memory.wf s.win = true
  cur_lt : s.cur < Config.windowSize
  cnt_le : s.cnt ≤ Config.windowSize
  backed : s.bdState ≠ .failed → s.windowBacked
  type_lt : s.type < 4
  nlit_range : 257 ≤ s.nlit ∧ s.nlit ≤ 288
  ndist_range : 1 ≤ s.ndist ∧ s.ndist ≤ 32
  nclen_range : 4 ≤ s.nclen ∧ s.nclen ≤ 19
  cll_ok : s.cll.length = 19 ∧ ∀ v ∈ s.cll, v ≤ 7
  lenBuf_ok : s.lenBuf.length = 320 ∧ ∀ v ∈ s.lenBuf, v ≤ 15
  lenCnt_le : s.lenCnt ≤ 320
  err_failed : s.err.isSome = true ↔ s.bdState = .failed
  place : s.placeOk
  ready_done : s.outReady = true → s.phase = .idle ∧ s.bdState = .done

/-- OUT and the window have received the same bytes since they were both empty (R156, R18): CNT and CUR follow from the
length of OUT, and the byte d behind the cursor is the d-th last byte of OUT. -/
structure State.HistoryIsOut (s : State) : Prop where
  cnt_eq : s.cnt = min s.out.length Config.windowSize
  cur_eq : s.cur = s.out.length % Config.windowSize
  byte_eq : ∀ d, 1 ≤ d → d ≤ s.cnt →
    s.out[s.out.length - d]? = Memory.read s.win ((s.cur + Config.windowSize - d) % Config.windowSize)

/-- The block decoder's next element is a codeword of the table `t` (R154, R193, R196). -/
def State.decodesWith (s : State) (t : Table) : Prop :=
  (s.phase = .codeLength ∧ s.tblClc = some t) ∨
    (s.phase = .symbol ∧ s.bdState = .dynamicHuffmanBlock ∧ s.tblDynLL = some t) ∨
    (∃ run, s.phase = .distance run ∧ s.bdState = .dynamicHuffmanBlock ∧ s.tblDynD = some t) ∨
    (s.phase = .symbol ∧ s.bdState = .fixedHuffmanBlock ∧ s.tblFixedLL = some t) ∨
    (∃ run, s.phase = .distance run ∧ s.bdState = .fixedHuffmanBlock ∧ s.tblFixedD = some t)

/-- The field a place reads with ReadUint: its format and width (R64, R66, R71). -/
def fieldOfPhase (p : Phase) : Option (Format × Nat) :=
  match p with
  | .header => some (.hdr, 3)
  | .storedLen => some (.storedLen, 16)
  | .storedNlen _ => some (.storedNlen, 16)
  | .storedData _ => some (.storedData, 8)
  | .preHlit => some (.preHlit, 5)
  | .preHdist => some (.preHdist, 5)
  | .preHclen => some (.preHclen, 4)
  | .preCll group => some (.preCll group, 3)
  | _ => none

end Sys2Proof.Machine
end

