-- ==== Sys2Proof/Certificates/Slice0/Obligations.lean ====
section
/-! DEFINITION. The statements for the provers. A conclusion `exec i s = .next …` says at once that the instruction
completes, what it writes and that nothing else changes. `phase` is the model's place marker (notes/assumptions/1.md;
"log n" below is notes/assumptions/n.md). `takeFault` is fault entry, stated with its choices by
`FaultEntryRecordsTheKind`; `endBlock` is the end of a block, by `BlocksEndInTheNextHeaderOrInDone`. -/

open Sys2Proof Sys2Proof.Machine

/-! ### The bit reader -/

/-- BR.POS (R90): answers POS mod 8 and writes nothing. -/
def Obligations.BrPosAnswersTheBitOffset : Prop :=
  ∀ s : State, s.bdState ≠ .failed →
    exec .brPos s = .next { s with resp := some ⟨.ok, BitVec.ofNat 32 (s.pos % 8)⟩ }

/-- BR.TRY (R91): the bit at POS, and POS one further; at the end of input NONE, POS unchanged, no fault. -/
def Obligations.BrTryAnswersTheNextBitOrNone : Prop :=
  ∀ s : State, s.bdState ≠ .failed →
    (s.pos < 8 * s.inLen →
      exec .brTry s = .next { s with pos := s.pos + 1, resp := some ⟨.ok, BitVec.ofNat 32 (bitAt s.inp s.pos)⟩ }) ∧
    (s.pos = 8 * s.inLen → exec .brTry s = .next { s with resp := some ⟨.none, 0⟩ })

/-- BR.RDU (R92): the count is tested first, then availability of all bits; on success the bits are packed with the
first bit least significant, and POS moves by their number. -/
def Obligations.BrRduPacksBitsLittleEndian : Prop :=
  ∀ s : State, s.bdState ≠ .failed →
    (∀ n : Int, n < 0 ∨ 31 < n → exec (.brRdu n) s = .next (s.takeFault .invalidBitCount)) ∧
    (∀ n : Nat, n ≤ 31 → 8 * s.inLen < s.pos + n →
      exec (.brRdu n) s = .next (s.takeFault .unexpectedEndOfStream)) ∧
    (∀ n : Nat, n ≤ 31 → s.pos + n ≤ 8 * s.inLen →
      (∑ k ∈ Finset.range n, bitAt s.inp (s.pos + k) * 2 ^ k) < 2 ^ n ∧
      exec (.brRdu n) s = .next { s with
        pos := s.pos + n
        resp := some ⟨.ok, BitVec.ofNat 32 (∑ k ∈ Finset.range n, bitAt s.inp (s.pos + k) * 2 ^ k)⟩ })

/-- R13 and R42: a byte's bits are consumed least significant first; 0x87 gives 1,1,1,0,0,0,0,1. -/
def Obligations.BitsOfAByteAreReadLsbFirst : Prop :=
  (∀ (inp : List Byte) (p : Nat) (b : Byte), inp[p / 8]? = some b → bitAt inp p = b.toNat / 2 ^ (p % 8) % 2) ∧
  (List.range 8).map (bitAt [0x87]) = [1, 1, 1, 0, 0, 0, 0, 1]

/-- R46: ReadUint(a + b) reads what ReadUint(a) and then ReadUint(b) read. -/
def Obligations.ReadUintSplits : Prop :=
  ∀ (s t u : State) (a b v w : Nat), a + b ≤ 31 → s.readUint a = .ok (v, t) → t.readUint b = .ok (w, u) →
    s.readUint ((a + b : Nat) : Int) = .ok (v + 2 ^ a * w, u)

/-! ### The canonical Huffman unit -/

/-- R110 and R111: for lengths in 0..15, Build succeeds exactly when the lengths fill the code space, faults with
OverfullCode exactly when they ask for more, and with UnderfullCode exactly when they leave a part unused. -/
def Obligations.BuildSucceedsExactlyOnFullCodes : Prop :=
  ∀ lens : List Nat, (∀ l ∈ lens, l ≤ 15) →
    ((∃ t, build lens = .ok t) ↔ codeSpace lens = 32768) ∧
    (build lens = .error .overfullCode ↔ 32768 < codeSpace lens) ∧
    (build lens = .error .underfullCode ↔ codeSpace lens < 32768)

/-- R111(c) and (d), R110, R14: in a table Build returned every key is of the form `(1 << L) | c`, every symbol of
non-zero length has exactly one key, and no codeword is a prefix of another; the codewords of one length are
consecutive integers in symbol order, and the first codeword of a length is 0 when there is no shorter one, else the
last codeword of the nearest shorter used length plus one, shifted by the difference of the lengths. -/
def Obligations.BuiltTablesArePrefixFree : Prop :=
  ∀ (lens : List Nat) (t : Table), (∀ l ∈ lens, l ≤ 15) → build lens = .ok t →
    (∀ e ∈ t, ∃ L, 1 ≤ L ∧ L ≤ 15 ∧ lens[e.2]? = some L ∧ 2 ^ L ≤ e.1 ∧ e.1 < 2 ^ (L + 1)) ∧
    (∀ sym L, lens[sym]? = some L → 1 ≤ L → ∃! key, (key, sym) ∈ t) ∧
    (∀ e ∈ t, ∀ f ∈ t, ∀ n, e.1 / 2 ^ n = f.1 → e = f) ∧
    (∀ e ∈ t, ∀ f ∈ t, ∀ L, lens[e.2]? = some L → lens[f.2]? = some L → e.2 < f.2 →
      (∀ k, e.2 < k → k < f.2 → lens[k]? ≠ some L) → f.1 = e.1 + 1) ∧
    (∀ e ∈ t, ∀ L, lens[e.2]? = some L → (∀ k, k < e.2 → lens[k]? ≠ some L) →
      ((∀ l ∈ lens, l = 0 ∨ L ≤ l) → e.1 = 2 ^ L) ∧
      (∀ f ∈ t, ∀ M, lens[f.2]? = some M → M < L → (∀ l ∈ lens, l ≤ M ∨ L ≤ l) →
        (∀ k, f.2 < k → lens[k]? ≠ some M) → e.1 = 2 ^ L + (f.1 - 2 ^ M + 1) * 2 ^ (L - M)))

/-- R113: with a table Build returned, Decode reads 1 to 15 bits and answers a symbol of the table, or the input has
fewer than 15 bits left and ends first. -/
def Obligations.DecodeEndsWithinFifteenBits : Prop :=
  ∀ (lens : List Nat) (t : Table) (s : State), (∀ l ∈ lens, l ≤ 15) → build lens = .ok t → s.pos ≤ 8 * s.inLen →
    (∃ key sym p, s.decodeSymbol t = .ok (key, sym, { s with pos := p }) ∧ s.pos < p ∧ p ≤ s.pos + 15 ∧
      p ≤ 8 * s.inLen ∧ key ≤ 65535 ∧ sym < lens.length ∧ tableLookup t key = some sym) ∨
    (s.decodeSymbol t = .error .unexpectedEndOfStream ∧ 8 * s.inLen < s.pos + 15)

/-- HC.BLD (R116): the slot is replaced by the table of the span; on a fault of Build the command faults; a slot
outside 2..4 or a span outside LENBUF is refused. -/
def Obligations.HcBldReplacesTheSlot : Prop :=
  ∀ s : State, s.bdState ≠ .failed →
    (∀ b c : Nat, b + c ≤ 320 → ∀ t, build ((s.lenBuf.drop b).take c) = .ok t →
      exec (.hcBld 2 b c) s = .next { s with tblClc := some t, resp := some ⟨.ok, 0⟩ } ∧
      exec (.hcBld 3 b c) s = .next { s with tblDynLL := some t, resp := some ⟨.ok, 0⟩ } ∧
      exec (.hcBld 4 b c) s = .next { s with tblDynD := some t, resp := some ⟨.ok, 0⟩ }) ∧
    (∀ a : Int, 2 ≤ a → a ≤ 4 → ∀ b c : Nat, b + c ≤ 320 → ∀ k, build ((s.lenBuf.drop b).take c) = .error k →
      exec (.hcBld a b c) s = .next (s.takeFault k)) ∧
    (∀ a b c : Int, (a < 2 ∨ 4 < a ∨ b < 0 ∨ c < 0 ∨ 320 < b + c) →
      exec (.hcBld a b c) s = .next { s with resp := some ⟨.refused, 0⟩ })

/-- HC.DEC (R117, R112): the symbol of the codeword at POS, and POS behind it; if no codeword of the table ends within
the input, UnexpectedEndOfStream; refused when the slot is EMPTY or outside 0..4. -/
def Obligations.HcDecDecodesTheCodewordAtPos : Prop :=
  ∀ s : State, s.bdState ≠ .failed →
    (∀ slot : Nat, slot ≤ 4 → ∀ t, s.table slot = some t → ∀ len sym, s.codewordHere t len sym →
      exec (.hcDec slot) s = .next { s with pos := s.pos + len, resp := some ⟨.ok, BitVec.ofNat 32 sym⟩ }) ∧
    (∀ slot : Nat, slot ≤ 4 → ∀ t, s.table slot = some t →
      (∀ m, 1 ≤ m → s.pos + m ≤ 8 * s.inLen → tableLookup t (codeKey m (codewordAt s.inp s.pos m)) = none) →
      exec (.hcDec slot) s = .next (s.takeFault .unexpectedEndOfStream)) ∧
    (∀ slot : Nat, slot ≤ 4 → s.table slot = none →
      exec (.hcDec slot) s = .next { s with resp := some ⟨.refused, 0⟩ }) ∧
    (∀ a : Int, (a < 0 ∨ 4 < a) → exec (.hcDec a) s = .next { s with resp := some ⟨.refused, 0⟩ })

/-- LB.SET (R114): one entry of LENBUF is written; an index outside 0..319 or a value outside 0..15 is refused. -/
def Obligations.LbSetWritesOneLength : Prop :=
  ∀ s : State, s.bdState ≠ .failed →
    (∀ a b : Nat, a ≤ 319 → b ≤ 15 →
      exec (.lbSet a b) s = .next { s with lenBuf := s.lenBuf.set a b, resp := some ⟨.ok, 0⟩ }) ∧
    (∀ a b : Int, (a < 0 ∨ 319 < a ∨ b < 0 ∨ 15 < b) →
      exec (.lbSet a b) s = .next { s with resp := some ⟨.refused, 0⟩ })

/-- R74: both fixed tables can be built, and their codewords are those of the rule's table. -/
def Obligations.FixedTablesHaveTheListedCodewords : Prop :=
  build fixedLLLens = .ok
    ((List.range 24).map (fun k => (128 + k, 256 + k)) ++ (List.range 144).map (fun k => (304 + k, k)) ++
      (List.range 8).map (fun k => (448 + k, 280 + k)) ++ (List.range 112).map (fun k => (912 + k, 144 + k))) ∧
  build fixedDLens = .ok ((List.range 32).map fun k => (32 + k, k)) ∧
  State.reset.tblFixedLL = (build fixedLLLens).toOption ∧ State.reset.tblFixedD = (build fixedDLens).toOption

/-! ### The sliding window -/

/-- SW.APP (R130): the byte enters the window at CUR, CUR and CNT move, OUT and every other cell stay; an operand that
is no byte is refused. -/
def Obligations.SwAppAppendsToTheWindowOnly : Prop :=
  ∀ s : State, s.bdState ≠ .failed →
    (∀ b : Nat, b < 256 → ∃ t, exec (.swApp b) s = .next t ∧
      t = { s with win := t.win, cur := (s.cur + 1) % 32768, cnt := min (s.cnt + 1) 32768, resp := some ⟨.ok, 0⟩ } ∧
      t.windowByte s.cur = BitVec.ofNat 8 b ∧ ∀ a, a ≠ s.cur → t.windowByte a = s.windowByte a) ∧
    (∀ b : Int, (b < 0 ∨ 255 < b) → exec (.swApp b) s = .next { s with resp := some ⟨.refused, 0⟩ })

/-- SW.CPY (R131, R132): the distance is tested first, then the length; on success the last `distance` bytes of the
window, repeated periodically and cut to `length` bytes, are appended to OUT and to the window from CUR on; every
other cell stays. The host may not read OUT from then on (R212; that the right is a bit of the state is the model's
choice, log 8). -/
def Obligations.SwCpyRepeatsTheLastBytes : Prop :=
  ∀ s : State, s.bdState ≠ .failed →
    (∀ d l : Int, (d < 1 ∨ (s.cnt : Int) < d) → exec (.swCpy d l) s = .next (s.takeFault .invalidDistance)) ∧
    (∀ d l : Int, 1 ≤ d → d ≤ s.cnt → l < 0 → exec (.swCpy d l) s = .next (s.takeFault .invalidLength)) ∧
    (∀ d l : Nat, 1 ≤ d → d ≤ s.cnt → s.cnt ≤ 32768 → s.cur < 32768 →
      let g := fun k => s.windowByte ((s.cur + 32768 - d + k % d) % 32768)
      ∃ t, exec (.swCpy d l) s = .next t ∧
        t = { s with
          out := s.out ++ (List.range l).map g, win := t.win, cur := (s.cur + l) % 32768
          cnt := min (s.cnt + l) 32768, outReady := false, resp := some ⟨.ok, 0⟩ } ∧
        t.hostReadOut = none ∧
        (∀ k, k < l → l ≤ k + 32768 → t.windowByte ((s.cur + k) % 32768) = g k) ∧
        (∀ a, a < 32768 → (∀ k, k < l → a ≠ (s.cur + k) % 32768) → t.windowByte a = s.windowByte a))

/-! ### Headers and stored blocks -/

/-- R151, R152, R154: a header writes FINAL and TYPE, and the type selects the block; type 3 raises ReservedBlockType
whatever FINAL is. (The model's choices it speaks of: log 1.) -/
def Obligations.HeadersSelectTheBlock : Prop :=
  ∀ (s : State) (f : Bool), s.phase = .header →
    exec (.hdrStored f) s =
      .next { s with final := f, type := 0, bdState := .storedBlock, phase := .storedPad } ∧
    exec (.hdrFixed f) s =
      .next { s with final := f, type := 1, distPresent := true, bdState := .fixedHuffmanBlock, phase := .symbol } ∧
    exec (.hdrDynamic f) s =
      .next { s with final := f, type := 2, bdState := .dynamicHuffmanBlock, phase := .preHlit } ∧
    exec (.hdrReserved f) s = .next (s.takeFault .reservedBlockType)

/-- R153, R48, R94: the padding of a stored block moves POS to the next byte boundary, at most 7 bits and not beyond
the end of IN, whatever the bits are; then comes LEN. (The model's choices it speaks of: log 1.) -/
def Obligations.StoredPaddingAligns : Prop :=
  ∀ s : State, s.phase = .storedPad → s.pos ≤ 8 * s.inLen →
    ∃ p, exec .storedPad s = .next { s with pos := p, phase := .storedLen } ∧
      p % 8 = 0 ∧ s.pos ≤ p ∧ p ≤ s.pos + 7 ∧ p ≤ 8 * s.inLen

/-- R153, R227: LEN is kept, NLEN must be its complement, else StoredBlockLengthMismatch before any data byte; LEN = 0
ends the block at once. (The model's choices it speaks of: log 1.) -/
def Obligations.StoredLengthMustMatchItsComplement : Prop :=
  (∀ (s : State) (len : Nat), s.phase = .storedLen →
    exec (.storedLen len) s = .next { s with phase := .storedNlen len }) ∧
  (∀ (s : State) (len nlen : Nat), s.phase = .storedNlen len → len < 65536 → nlen < 65536 →
    (nlen ≠ 65535 - len → exec (.storedNlen nlen) s = .next (s.takeFault .storedBlockLengthMismatch)) ∧
    (nlen = 65535 - len → 0 < len → exec (.storedNlen nlen) s = .next { s with phase := .storedData len }) ∧
    (nlen = 65535 - len → len = 0 → exec (.storedNlen nlen) s = .next s.endBlock))

/-- R153, R156: a data byte goes to OUT and to the window; after the last one the block is complete. (The model's
choices it speaks of: log 1.) -/
def Obligations.StoredBytesGoToOutAndWindow : Prop :=
  ∀ (s : State) (left b : Nat), s.phase = .storedData left → b < 256 →
    ∃ t : State, t = { s with
        out := s.out ++ [BitVec.ofNat 8 b], win := t.win, cur := (s.cur + 1) % 32768, cnt := min (s.cnt + 1) 32768 } ∧
      t.windowByte s.cur = BitVec.ofNat 8 b ∧ (∀ a, a ≠ s.cur → t.windowByte a = s.windowByte a) ∧
      (1 < left → exec (.storedData b) s = .next { t with phase := .storedData (left - 1) }) ∧
      (left = 1 → exec (.storedData b) s = .next t.endBlock)

/-- R150, R157, R211, R212: the end of a block leads to the next header, at the current POS; after the final block POS
is aligned, STATE is Done, the response is OK with OUT_LEN, and the host may read the whole of OUT. (The model's
choices it speaks of: log 1, log 2, log 8; log 10: the response is the low 32 bits of OUT_LEN; log 13: with FINAL = 0
the dead tables of a dynamic block stay in TBL[2..4].) -/
def Obligations.BlocksEndInTheNextHeaderOrInDone : Prop :=
  ∀ s : State,
    (s.final = false → s.endBlock = { s with bdState := .readingBlockHeader, phase := .header }) ∧
    (s.final = true → s.pos ≤ 8 * s.inLen →
      ∃ t, s.endBlock = t ∧ t.bdState = .done ∧ t.phase = .idle ∧
        t.resp = some ⟨.ok, BitVec.ofNat 32 s.out.length⟩ ∧ t.out = s.out ∧ t.hostReadOut = some s.out ∧
        t.pos % 8 = 0 ∧ s.pos ≤ t.pos ∧ t.pos ≤ s.pos + 7 ∧ t.pos ≤ 8 * s.inLen ∧ t.err = s.err ∧
        t.inp = s.inp ∧ t.win = s.win ∧ t.cur = s.cur ∧ t.cnt = s.cnt ∧ t.final = s.final ∧ t.type = s.type ∧
        t.distPresent = s.distPresent ∧ t.tblFixedLL = s.tblFixedLL ∧ t.tblFixedD = s.tblFixedD ∧ t.port = s.port)

/-! ### The symbols of a Huffman block -/

/-- R156: a literal symbol, of a dynamic or a fixed block, emits its byte to OUT and the window, and nothing else.
(The model's choices it speaks of: log 1.) -/
def Obligations.LiteralsGoToOutAndWindow : Prop :=
  ∀ (i : Instr) (s : State) (b : Nat), standsForLiteralLength i s b → b < 256 → s.phase = .symbol →
    ∃ t, exec i s = .next t ∧
      t = { s with
        out := s.out ++ [BitVec.ofNat 8 b], win := t.win, cur := (s.cur + 1) % 32768, cnt := min (s.cnt + 1) 32768 } ∧
      t.windowByte s.cur = BitVec.ofNat 8 b ∧ ∀ a, a ≠ s.cur → t.windowByte a = s.windowByte a

/-- R157: symbol 256 ends the block and emits nothing. (The model's choices it speaks of: log 1.) -/
def Obligations.EndOfBlockSymbolEndsTheBlock : Prop :=
  ∀ (i : Instr) (s : State), standsForLiteralLength i s 256 → s.phase = .symbol → exec i s = .next s.endBlock

/-- R69, R158: a length symbol 257 to 285 computes its run length from the symbol and its extra bits, and the distance
symbol comes next. (The model's choices it speaks of: log 1.) -/
def Obligations.LengthSymbolsComputeTheRunLength : Prop :=
  ∀ (i : Instr) (s : State) (sym : Nat), standsForLiteralLength i s sym → s.phase = .symbol → s.distPresent = true →
    (257 ≤ sym → sym ≤ 264 → exec i s = .next { s with phase := .distance (sym - 254) }) ∧
    (∀ e, 265 ≤ sym → sym ≤ 284 → e = (sym - 261) / 4 → s.pos + e ≤ 8 * s.inLen →
      exec i s = .next { s with
        pos := s.pos + e
        phase := .distance (((sym - 265) % 4 + 4) * 2 ^ e + 3 +
          ∑ k ∈ Finset.range e, bitAt s.inp (s.pos + k) * 2 ^ k) }) ∧
    (sym = 285 → exec i s = .next { s with phase := .distance 258 })

/-- R158, R229, R232, R238: symbols 286 and 287 raise ReservedLengthSymbol before any distance handling; a length
symbol whose extra bits are cut off raises UnexpectedEndOfStream; with its extra bits read, one in a block without a
distance code raises EmptyDistanceCode. (The model's choices it speaks of: log 1.) -/
def Obligations.LengthSymbolFaultsComeInOrder : Prop :=
  ∀ (i : Instr) (s : State) (sym : Nat), standsForLiteralLength i s sym → s.phase = .symbol →
    (sym = 286 ∨ sym = 287 → exec i s = .next (s.takeFault .reservedLengthSymbol)) ∧
    (265 ≤ sym → sym ≤ 284 → 8 * s.inLen < s.pos + (sym - 261) / 4 →
      exec i s = .next (s.takeFault .unexpectedEndOfStream)) ∧
    (257 ≤ sym → sym ≤ 285 → (265 ≤ sym → sym ≤ 284 → s.pos + (sym - 261) / 4 ≤ 8 * s.inLen) →
      s.distPresent = false → exec i s = .next (s.takeFault .emptyDistanceCode))

/-- R70, R158, R131, R132: a distance symbol 0 to 29 computes the distance from the symbol and its extra bits and,
when that many bytes are in the window, copies `run` bytes: the last bytes of the window repeated periodically, to OUT
and to the cells from CUR on; every other cell stays. (The model's choices it speaks of: log 1.) -/
def Obligations.DistanceSymbolsCopyTheRun : Prop :=
  ∀ (i : Instr) (s : State) (run sym e d : Nat), standsForDistance i s sym → s.phase = .distance run → sym ≤ 29 →
    e = (if sym ≤ 3 then 0 else sym / 2 - 1) →
    d = (if sym ≤ 3 then sym + 1
      else (sym % 2 + 2) * 2 ^ e + 1 + ∑ k ∈ Finset.range e, bitAt s.inp (s.pos + k) * 2 ^ k) →
    s.pos + e ≤ 8 * s.inLen → d ≤ s.cnt → s.cnt ≤ 32768 → s.cur < 32768 →
    ∃ t, exec i s = .next t ∧
      (let g := fun k => s.windowByte ((s.cur + 32768 - d + k % d) % 32768)
       t = { s with
          pos := s.pos + e, out := s.out ++ (List.range run).map g, win := t.win, cur := (s.cur + run) % 32768
          cnt := min (s.cnt + run) 32768, phase := .symbol } ∧
        (∀ k, k < run → run ≤ k + 32768 → t.windowByte ((s.cur + k) % 32768) = g k) ∧
        (∀ a, a < 32768 → (∀ k, k < run → a ≠ (s.cur + k) % 32768) → t.windowByte a = s.windowByte a))

/-- R158, R231, R230, R238: symbols 30 and 31 raise ReservedDistanceSymbol; cut-off extra bits raise
UnexpectedEndOfStream; a distance of more bytes than the window holds raises InvalidDistance. (The model's choices it
speaks of: log 1.) -/
def Obligations.DistanceSymbolFaultsComeInOrder : Prop :=
  ∀ (i : Instr) (s : State) (run sym : Nat), standsForDistance i s sym → s.phase = .distance run →
    (sym = 30 ∨ sym = 31 → exec i s = .next (s.takeFault .reservedDistanceSymbol)) ∧
    (4 ≤ sym → sym ≤ 29 → 8 * s.inLen < s.pos + (sym / 2 - 1) →
      exec i s = .next (s.takeFault .unexpectedEndOfStream)) ∧
    (sym ≤ 3 → s.cnt < sym + 1 → exec i s = .next (s.takeFault .invalidDistance)) ∧
    (∀ e, 4 ≤ sym → sym ≤ 29 → e = sym / 2 - 1 → s.pos + e ≤ 8 * s.inLen →
      s.cnt < (sym % 2 + 2) * 2 ^ e + 1 + ∑ k ∈ Finset.range e, bitAt s.inp (s.pos + k) * 2 ^ k →
      exec i s = .next (s.takeFault .invalidDistance))

/-- R160, R69, R70: every run length lies in 3..258 and every distance in 1..32768, so the range tests cannot fire. -/
def Obligations.RunLengthsAndDistancesStayInRange : Prop :=
  (∀ (s t : State) (sym run : Nat), 257 ≤ sym → s.runLength sym = .ok (run, t) → 3 ≤ run ∧ run ≤ 258) ∧
  (∀ (s t : State) (sym d : Nat), s.distanceOf sym = .ok (d, t) → 1 ≤ d ∧ d ≤ 32768)

/-! ### The preamble of a dynamic block -/

/-- R190, R191: the three counts, and CLL cleared before its groups are read. (The model's choices it speaks of: log
1.) -/
def Obligations.PreambleCountsAreSet : Prop :=
  ∀ (s : State) (v : Nat),
    (s.phase = .preHlit → exec (.preHlit v) s = .next { s with nlit := v + 257, phase := .preHdist }) ∧
    (s.phase = .preHdist → exec (.preHdist v) s = .next { s with ndist := v + 1, phase := .preHclen }) ∧
    (s.phase = .preHclen → exec (.preHclen v) s =
      .next { s with nclen := v + 4, cll := List.replicate 19 0, phase := .preCll 0 })

/-- R191, R192, R72: the i-th 3-bit group goes to CLL[ORDER[i]]; after the last one the code-length code is built into
TBL[2], or its construction faults, and the list of lengths is empty. (The model's choices it speaks of: log 1.) -/
def Obligations.GroupsFillTheCodeLengthCode : Prop :=
  ∀ (i : Instr) (s : State) (g v slot : Nat), encode i = .element (.preCll g) v → s.phase = .preCll g →
    [16, 17, 18, 0, 8, 7, 9, 6, 10, 5, 11, 4, 12, 3, 13, 2, 14, 1, 15][g]? = some slot →
    (g + 1 < s.nclen → exec i s = .next { s with cll := s.cll.set slot v, phase := .preCll (g + 1) }) ∧
    (s.nclen ≤ g + 1 →
      (∀ t, build (s.cll.set slot v) = .ok t → exec i s =
        .next { s with cll := s.cll.set slot v, tblClc := some t, lenCnt := 0, phase := .codeLength }) ∧
      (∀ k, build (s.cll.set slot v) = .error k → exec i s = .next (s.takeFault k)))

/-- R193: a code-length symbol 0 to 15 appends its value; 16 repeats the previous length 3 to 6 times, 17 appends 3 to
10 zeros, 18 appends 11 to 138 zeros. Here the list does not become complete; `TheCompleteListGivesTheTables` has the
symbol that completes it. (The model's choices it speaks of: log 1.) -/
def Obligations.CodeLengthSymbolsExtendTheList : Prop :=
  ∀ (i : Instr) (s : State) (sym : Nat), encode i = .element .clSymbol sym → s.phase = .codeLength →
    (sym ≤ 15 → s.lenCnt + 1 < s.nlit + s.ndist →
      exec i s = .next { s with lenBuf := s.lenBuf.set s.lenCnt sym, lenCnt := s.lenCnt + 1 }) ∧
    (∀ e least rep : Nat, (sym = 16 ∧ 0 < s.lenCnt ∧ e = 2 ∧ least = 3) ∨ (sym = 17 ∧ e = 3 ∧ least = 3) ∨
        (sym = 18 ∧ e = 7 ∧ least = 11) →
      s.pos + e ≤ 8 * s.inLen → rep = least + ∑ k ∈ Finset.range e, bitAt s.inp (s.pos + k) * 2 ^ k →
      s.lenCnt + rep < s.nlit + s.ndist → s.nlit + s.ndist ≤ s.lenBuf.length →
      ∃ t, exec i s = .next t ∧
        t = { s with pos := s.pos + e, lenBuf := t.lenBuf, lenCnt := s.lenCnt + rep } ∧
        t.lenBuf.length = s.lenBuf.length ∧
        (∀ j, s.lenCnt ≤ j → j < s.lenCnt + rep →
          t.lenBuf[j]? = if sym = 16 then s.lenBuf[s.lenCnt - 1]? else some 0) ∧
        (∀ j, (j < s.lenCnt ∨ s.lenCnt + rep ≤ j) → t.lenBuf[j]? = s.lenBuf[j]?))

/-- R193, R233, R234, R238: symbol 16 with an empty list raises NoPreviousLengthToCopy before its extra bits are read;
cut-off extra bits raise UnexpectedEndOfStream; a repeat past NLIT + NDIST raises CodeLengthOverrun. (The model's
choices it speaks of: log 1.) -/
def Obligations.CodeLengthFaultsComeInOrder : Prop :=
  ∀ (i : Instr) (s : State) (sym : Nat), encode i = .element .clSymbol sym → s.phase = .codeLength →
    (sym = 16 → s.lenCnt = 0 → exec i s = .next (s.takeFault .noPreviousLengthToCopy)) ∧
    (∀ e least : Nat, (sym = 16 ∧ 0 < s.lenCnt ∧ e = 2 ∧ least = 3) ∨ (sym = 17 ∧ e = 3 ∧ least = 3) ∨
        (sym = 18 ∧ e = 7 ∧ least = 11) →
      (8 * s.inLen < s.pos + e → exec i s = .next (s.takeFault .unexpectedEndOfStream)) ∧
      (s.pos + e ≤ 8 * s.inLen →
        s.nlit + s.ndist < s.lenCnt + (least + ∑ k ∈ Finset.range e, bitAt s.inp (s.pos + k) * 2 ^ k) →
        exec i s = .next (s.takeFault .codeLengthOverrun)))

/-- R193, R194, R195, R238: the symbol that completes the list of lengths ends the preamble, a length 0 to 15 as well
as a repeat 16, 17 or 18 whose run ends exactly at NLIT + NDIST; the run may cross the split. The first NLIT lengths
give the literal/length table, and symbol 256 must have a length; the rest gives the distance table, which is absent
when it is one length 0, and is padded to 32 entries when it is a single code of length 1. (The model's choices it
speaks of: log 1.) -/
def Obligations.TheCompleteListGivesTheTables : Prop :=
  ∀ (i : Instr) (s : State) (sym e rep val : Nat) (lens L D D' : List Nat) (t : State),
    encode i = .element .clSymbol sym → s.phase = .codeLength →
    ((sym ≤ 15 ∧ e = 0 ∧ rep = 1 ∧ val = sym) ∨
      (∃ least, ((sym = 16 ∧ 0 < s.lenCnt ∧ e = 2 ∧ least = 3 ∧ s.lenBuf[s.lenCnt - 1]? = some val) ∨
          (sym = 17 ∧ e = 3 ∧ least = 3 ∧ val = 0) ∨ (sym = 18 ∧ e = 7 ∧ least = 11 ∧ val = 0)) ∧
        s.pos + e ≤ 8 * s.inLen ∧ rep = least + ∑ k ∈ Finset.range e, bitAt s.inp (s.pos + k) * 2 ^ k)) →
    s.lenCnt + rep = s.nlit + s.ndist → 257 ≤ s.nlit → 1 ≤ s.ndist → s.ndist ≤ 32 →
    s.nlit + s.ndist ≤ s.lenBuf.length →
    lens = s.lenBuf.take s.lenCnt ++ List.replicate rep val ++ s.lenBuf.drop (s.lenCnt + rep) →
    L = lens.take s.nlit → D = (lens.drop s.nlit).take s.ndist →
    D' = (if D.count 1 = 1 ∧ (∀ l ∈ D, l ≤ 1) then (D ++ List.replicate (32 - s.ndist) 0).set 31 1 else D) →
    t = { s with pos := s.pos + e, lenBuf := lens, lenCnt := s.lenCnt + rep } →
    (L[256]? = some 0 → exec i s = .next (s.takeFault .missingEndOfBlockSymbol)) ∧
    (L[256]? ≠ some 0 → ∀ k, build L = .error k → exec i s = .next (s.takeFault k)) ∧
    (L[256]? ≠ some 0 → ∀ tl, build L = .ok tl →
      (D = [0] → exec i s =
        .next { t with tblDynLL := some tl, tblDynD := none, distPresent := false, phase := .symbol }) ∧
      (D ≠ [0] → ∀ k, build D' = .error k → exec i s = .next (s.takeFault k)) ∧
      (D ≠ [0] → ∀ td, build D' = .ok td → exec i s =
        .next { t with tblDynLL := some tl, tblDynD := some td, distPresent := true, phase := .symbol }))

/-- R195(b): with one real distance code, of length 1 and symbol j <= 30, the padded table can be built; j has
codeword 0 and symbol 31 has codeword 1. -/
def Obligations.PaddingMakesTheSingleDistanceCodeFull : Prop :=
  ∀ (n j : Nat), j < n → n ≤ 32 → j ≤ 30 →
    build (paddedDistanceLengths ((List.replicate n 0).set j 1)) = .ok [(2, j), (3, 31)]

/-! ### Faults, refusals, reset -/

/-- R239, R240: fault entry records the kind in ERR if ERR was 0, and in the response; STATE is FAILED; IN and the
fixed tables are unchanged; OUT is not for the host; no more is promised of the rest than its ranges. (The model's
choices it speaks of: log 1, log 8; log 5: that POS, CUR and CNT, which R239 leaves unspecified, keep their ranges.)
-/
def Obligations.FaultEntryRecordsTheKind : Prop :=
  ∀ (s t : State) (k : FaultKind), t = s.takeFault k →
    (s.err = none → t.err = some k) ∧ (∀ j, s.err = some j → t.err = some j) ∧ t.bdState = .failed ∧
    t.resp = some ⟨.fault, BitVec.ofNat 32 k.code⟩ ∧ t.inp = s.inp ∧ t.tblFixedLL = s.tblFixedLL ∧
    t.tblFixedD = s.tblFixedD ∧ t.hostReadOut = none ∧ t.phase = .idle ∧ t.pos ≤ 8 * t.inLen ∧ t.cur < 32768 ∧
    t.cnt ≤ 32768

/-- R220, R221, R239: over all instructions, FAILED is entered only by fault entry: ERR names a kind, the response is
FAULT with that kind's code, IN and the fixed tables are unchanged and OUT is not for the host. (The model's choices
it speaks of: log 1, log 8.) -/
def Obligations.FailedIsEnteredOnlyByAFault : Prop :=
  ∀ (i : Instr) (s t : State), s.bdState ≠ .failed → s.err = none → exec i s = .next t → t.bdState = .failed →
    ∃ k : FaultKind, t.err = some k ∧ t.resp = some ⟨.fault, BitVec.ofNat 32 k.code⟩ ∧ t.inp = s.inp ∧
      t.tblFixedLL = s.tblFixedLL ∧ t.tblFixedD = s.tblFixedD ∧ t.hostReadOut = none ∧ t.phase = .idle

/-- R241: RESET is the only way out of FAILED: any other instruction that answers a next state leaves STATE and ERR.
(The model's choices it speaks of: log 1.) -/
def Obligations.OnlyResetLeavesFailed : Prop :=
  ∀ (i : Instr) (s t : State), s.bdState = .failed → s.phase = .idle → i ≠ .reset → exec i s = .next t →
    t.bdState = .failed ∧ t.err = s.err ∧ t.phase = .idle

/-- R244: a command of the list responds REFUSED and changes nothing; every other command gets a response that is not
REFUSED, in every state. -/
def Obligations.ExactlyTheListedCommandsAreRefused : Prop :=
  ∀ (i : Instr) (s : State), isCommand i →
    (refusable i s → exec i s = .next { s with resp := some ⟨.refused, 0⟩ }) ∧
    (¬ refusable i s → ∃ t r, exec i s = .next t ∧ t.resp = some r ∧ r.status ≠ .refused)

/-- R260, R29: RESET puts every element to its reset value from any state and leaves IN and N alone. -/
def Obligations.ResetRestoresEveryElement : Prop :=
  ∀ s : State, ∃ t, exec .reset s = .next t ∧ t.resp = some ⟨.ok, 0⟩ ∧ t.inp = s.inp ∧ t.pos = 0 ∧
    t.tblFixedLL = (build fixedLLLens).toOption ∧ t.tblFixedD = (build fixedDLens).toOption ∧
    t.tblClc = none ∧ t.tblDynLL = none ∧ t.tblDynD = none ∧ t.cur = 0 ∧ t.cnt = 0 ∧ t.out = [] ∧
    t.bdState = .readingBlockHeader ∧ t.final = false ∧ t.type = 0 ∧ t.nlit = 257 ∧ t.ndist = 1 ∧ t.nclen = 4 ∧
    t.cll = List.replicate 19 0 ∧ t.lenBuf = List.replicate 320 0 ∧ t.lenCnt = 0 ∧ t.distPresent = false ∧
    t.err = none

/-- R27, R215: CSR.RD answers the fields of the status registers at the bits the rule gives, unlisted bits 0, and
changes nothing. Registers 1 to 3 show the low 32 bits (92 D17, D18). (The model's choices it speaks of: log 10.) -/
def Obligations.CsrRdShowsTheListedFields : Prop :=
  ∀ s : State, s.bdState ≠ .failed → s.type < 4 → s.cur < 32768 → s.cnt ≤ 32768 → s.nlit ≤ 288 → s.ndist ≤ 32 →
    s.nclen ≤ 19 → s.lenCnt ≤ 320 → ∀ n : Nat, n ≤ 5 →
    ∃ v : Word, exec (.csrRd n) s = .next { s with resp := some ⟨.ok, v⟩ } ∧
      (n = 0 → v.toNat % 8 = s.bdState.code ∧ v.toNat / 8 % 32 = s.errCode ∧ v.toNat / 256 % 2 = s.final.toNat ∧
        v.toNat / 512 % 4 = s.type ∧ v.toNat / 2048 % 2 = s.distPresent.toNat ∧
        (v.toNat / 4096 % 2 = 1 ↔ s.pos = 8 * s.inLen) ∧ (v.toNat / 8192 % 2 = 1 ↔ s.pos % 8 = 0) ∧
        v.toNat / 16384 = 0) ∧
      (n = 1 → v.toNat = s.inLen % 2 ^ 32) ∧ (n = 2 → v.toNat = s.pos % 2 ^ 32) ∧
      (n = 3 → v.toNat = s.out.length % 2 ^ 32) ∧
      (n = 4 → v.toNat % 32768 = s.cur ∧ v.toNat / 32768 % 2 = 0 ∧ v.toNat / 65536 = s.cnt) ∧
      (n = 5 → v.toNat % 512 = s.nlit ∧ v.toNat / 512 % 64 = s.ndist ∧ v.toNat / 32768 % 32 = s.nclen ∧
        v.toNat / 1048576 % 512 = s.lenCnt ∧ v.toNat / 536870912 = 0)

/-- R215, R239: in FAILED, CSR.RD 0 still shows STATE and ERR in STATUS[7:0], and no state of the spec changes (the
counter of the model's free values moves, notes/assumptions/5.md). -/
def Obligations.CsrRdInFailedShowsStateAndErr : Prop :=
  ∀ (s : State) (n : Nat), s.bdState = .failed → n ≤ 5 →
    ∃ v : Word, exec (.csrRd n) s = .next { s with resp := some ⟨.ok, v⟩, free := s.free + 1 } ∧
      (n = 0 → v.toNat % 8 = 5 ∧ v.toNat / 8 % 32 = s.errCode)

/-- R10, R14, R15: no instruction writes IN, and none changes the fixed tables. -/
def Obligations.NoInstructionWritesInOrTheFixedTables : Prop :=
  ∀ (i : Instr) (s t : State), s.tblFixedLL = fixedLLTable → s.tblFixedD = fixedDTable → exec i s = .next t →
    t.inp = s.inp ∧ t.tblFixedLL = fixedLLTable ∧ t.tblFixedD = fixedDTable

/-- R11, R96: outside the initialisations (RESET, BD.RUN) and faults, POS never decreases and never passes 8N. -/
def Obligations.PosOnlyMovesForward : Prop :=
  ∀ (i : Instr) (s t : State), i ≠ .reset → i ≠ .bdRun → s.bdState ≠ .failed → s.pos ≤ 8 * s.inLen →
    exec i s = .next t → t.bdState ≠ .failed → s.pos ≤ t.pos ∧ t.pos ≤ 8 * t.inLen

/-- R19: outside the initialisations and faults, OUT only grows at its end. -/
def Obligations.OutIsAppendOnly : Prop :=
  ∀ (i : Instr) (s t : State), i ≠ .reset → i ≠ .bdRun → s.bdState ≠ .failed → exec i s = .next t →
    t.bdState ≠ .failed → s.out <+: t.out

/-! ### BD.RUN -/

/-- R161, R210, R212, R213: BD.RUN always ends, in Done or in FAILED. In Done the response is OUT_LEN, ERR is 0, FINAL
is 1, POS is aligned and the host may read OUT; in FAILED the response is FAULT with the kind in ERR, and it may not.
(The model's choices it speaks of: log 1, log 8; log 10: the response is the low 32 bits of OUT_LEN.) -/
def Obligations.BdRunEndsInDoneOrFailed : Prop :=
  ∀ s : State, s.bdState ≠ .failed → s.err = none →
    ∃ t, exec .bdRun s = .next t ∧ t.phase = .idle ∧ t.inp = s.inp ∧
      ((t.bdState = .done ∧ t.err = none ∧ t.resp = some ⟨.ok, BitVec.ofNat 32 t.out.length⟩ ∧
          t.hostReadOut = some t.out ∧ t.final = true ∧ t.pos % 8 = 0 ∧ t.pos ≤ 8 * t.inLen) ∨
        (t.bdState = .failed ∧ t.hostReadOut = none ∧
          ∃ k : FaultKind, t.err = some k ∧ t.resp = some ⟨.fault, BitVec.ofNat 32 k.code⟩))

/-- R210, R159, R160: BD.RUN never raises InvalidBitCount, InvalidRunLength, CorruptSymbol or InvalidLength. (The
model's choices it speaks of: log 1.) -/
def Obligations.BdRunNeverRaisesTheDeadKinds : Prop :=
  ∀ s t : State, s.Inv → s.bdState ≠ .failed → exec .bdRun s = .next t →
    t.err ≠ some .invalidBitCount ∧ t.err ≠ some .invalidRunLength ∧ t.err ≠ some .corruptSymbol ∧
      t.err ≠ some .invalidLength

/-- R153, R212, R211 and DOC00 section 8: a final stored block, with any padding bits and any bytes behind it, decodes
to exactly its data bytes, and POS ends behind the block. (The model's choices it speaks of: log 8.) -/
def Obligations.BdRunDecodesAStoredStream : Prop :=
  ∀ (s : State) (pad len : Nat) (data rest : List Byte), s.bdState ≠ .failed → s.err = none → pad < 32 →
    len = data.length → len < 65536 →
    s.inp = [BitVec.ofNat 8 (1 + 8 * pad), BitVec.ofNat 8 len, BitVec.ofNat 8 (len / 256),
      BitVec.ofNat 8 (65535 - len), BitVec.ofNat 8 ((65535 - len) / 256)] ++ data ++ rest →
    ∃ t, exec .bdRun s = .next t ∧ t.bdState = .done ∧ t.err = none ∧ t.out = data ∧
      t.resp = some ⟨.ok, BitVec.ofNat 32 len⟩ ∧ t.hostReadOut = some data ∧ t.pos = 8 * (5 + len) ∧
      t.final = true ∧ t.type = 0 ∧ t.distPresent = false ∧ t.cur = len % 32768 ∧ t.cnt = min len 32768

/-- R210: BD.RUN is a pure function of (IN, N): whatever earlier commands left in the core, two runs on the same input
give the same response and kind and, on success, the same output, position, window and flags. (The model's choices it
speaks of: log 1, log 8; log 6: that the windows are equal, because the old cells are forgotten at PerCallInit.) -/
def Obligations.BdRunDependsOnTheInputAlone : Prop :=
  ∀ s u t v : State, s.Inv → u.Inv → s.bdState ≠ .failed → u.bdState ≠ .failed → s.inp = u.inp →
    exec .bdRun s = .next t → exec .bdRun u = .next v →
    t.bdState = v.bdState ∧ t.err = v.err ∧ t.resp = v.resp ∧ t.hostReadOut = v.hostReadOut ∧
      (t.bdState = .done → t.out = v.out ∧ t.pos = v.pos ∧ t.cur = v.cur ∧ t.cnt = v.cnt ∧ t.win = v.win ∧
        t.final = v.final ∧ t.type = v.type ∧ t.distPresent = v.distPresent)

/-- R156, R18, R265: inside a BD.RUN the window's history is OUT, at every element, and it still is after a success.
(The model's choices it speaks of: log 1; log 6: the window is the list of the cells written.) -/
def Obligations.TheWindowHoldsTheTailOfOut : Prop :=
  (∀ s t : State, s.Inv → s.phase ≠ .idle → s.HistoryIsOut → step s = .next t → t.bdState ≠ .failed →
    t.HistoryIsOut) ∧
  (∀ s t : State, s.Inv → s.bdState ≠ .failed → exec .bdRun s = .next t → t.bdState = .done → t.HistoryIsOut)

/-- R210, R261: BD.RUN is the element-by-element machine: it initialises the call and then runs steps until the stream
ends. (The model's choices it speaks of: log 1, log 4, log 8; log 6: the old cells of WIN are forgotten.) -/
def Obligations.BdRunIsTheElementMachineToItsEnd : Prop :=
  ∀ s : State, s.Inv → s.bdState ≠ .failed →
    ∃ (n : Nat) (t : State), exec .bdRun s = .next t ∧ t.phase = .idle ∧
      core.run n { s with
        pos := 0, cur := 0, cnt := 0, win := [], winEra := s.free, free := s.free + 1, out := [], outReady := false
        bdState := .readingBlockHeader, phase := .header, final := false, type := 0, distPresent := false } = .next t

/-- The worked streams of spec/95_test_vectors.md section 3: P1 (stored), P2 (fixed, overlapping copy), P4 (dynamic,
one distance code) and P5 (dynamic, no distance code). (The model's choices it speaks of: log 8.) -/
def Obligations.BdRunDecodesTheWorkedStreams : Prop :=
  (∃ t, exec .bdRun (State.reset.withHost [0x01, 0x05, 0x00, 0xFA, 0xFF, 0x48, 0x65, 0x6C, 0x6C, 0x6F] []) = .next t ∧
    t.hostReadOut = some [0x48, 0x65, 0x6C, 0x6C, 0x6F] ∧ t.pos = 80) ∧
  (∃ t, exec .bdRun (State.reset.withHost [0x4B, 0x4C, 0x82, 0x42, 0x00] []) = .next t ∧
    t.hostReadOut = some [0x61, 0x62, 0x61, 0x62, 0x61, 0x62, 0x61, 0x62, 0x61] ∧ t.pos = 40) ∧
  (∃ t, exec .bdRun (State.reset.withHost
      [0x0D, 0xC0, 0x81, 0x00, 0x00, 0x00, 0x00, 0x80, 0x20, 0xD6, 0xFD, 0x25, 0xAE, 0x18] []) = .next t ∧
    t.hostReadOut = some [0x61, 0x61, 0x61, 0x61] ∧ t.pos = 112 ∧ t.distPresent = true) ∧
  (∃ t, exec .bdRun (State.reset.withHost
      [0x05, 0xC0, 0x81, 0x08, 0x00, 0x00, 0x00, 0x00, 0x20, 0xED, 0xF1, 0x0F, 0x01] []) = .next t ∧
    t.hostReadOut = some [0x78, 0x78, 0x78] ∧ t.pos = 104 ∧ t.distPresent = false)

/-! ### The step -/

/-- With no BD.RUN in progress a step runs the oldest command presented; with none presented the core waits (R61).
(The model's choices it speaks of: log 1, log 2.) -/
def Obligations.StepRunsTheCommandPresented : Prop :=
  ∀ s : State, s.phase = .idle →
    (∀ c rest i, s.port = c :: rest → decode (.command c) = .ok i → step s = exec i { s with port := rest }) ∧
    (s.port = [] → step s = .next s)

/-- Inside a BD.RUN a step runs the stream element whose bits stand at POS, with POS behind them: a field read with
its width, the padding of a stored block, or the codeword found in the table in force, as a symbol or, in a fixed
block, by its key. If the input ends within the element, the step takes UnexpectedEndOfStream (R222). (The model's
choices it speaks of: log 1; log 11: a fixed block delivers the codeword by its key.) -/
def Obligations.StepRunsTheElementAtPos : Prop :=
  ∀ (s : State) (i : Instr),
    (∀ f n, fieldOfPhase s.phase = some (f, n) →
      (s.pos + n ≤ 8 * s.inLen → decode (.element f (bitsAt s.inp s.pos n)) = .ok i →
        step s = exec i { s with pos := s.pos + n }) ∧
      (8 * s.inLen < s.pos + n → step s = .next (s.takeFault .unexpectedEndOfStream))) ∧
    (s.phase = .storedPad → step s = exec .storedPad s) ∧
    (∀ t len sym, s.phase = .codeLength → s.tblClc = some t → s.codewordHere t len sym →
      decode (.element .clSymbol sym) = .ok i → step s = exec i { s with pos := s.pos + len }) ∧
    (∀ t len sym, s.phase = .symbol → s.bdState = .dynamicHuffmanBlock → s.tblDynLL = some t →
      s.codewordHere t len sym → decode (.element .llSymbol sym) = .ok i →
      step s = exec i { s with pos := s.pos + len }) ∧
    (∀ t len sym run, s.phase = .distance run → s.bdState = .dynamicHuffmanBlock → s.tblDynD = some t →
      s.codewordHere t len sym → decode (.element .dSymbol sym) = .ok i →
      step s = exec i { s with pos := s.pos + len }) ∧
    (∀ t len sym, s.phase = .symbol → s.bdState = .fixedHuffmanBlock → s.tblFixedLL = some t →
      s.codewordHere t len sym → decode (.element .fixedLL (codeKey len (codewordAt s.inp s.pos len))) = .ok i →
      step s = exec i { s with pos := s.pos + len }) ∧
    (∀ t len sym run, s.phase = .distance run → s.bdState = .fixedHuffmanBlock → s.tblFixedD = some t →
      s.codewordHere t len sym → decode (.element .fixedD (codeKey len (codewordAt s.inp s.pos len))) = .ok i →
      step s = exec i { s with pos := s.pos + len }) ∧
    (∀ t, s.decodesWith t →
      (∀ m, 1 ≤ m → s.pos + m ≤ 8 * s.inLen → tableLookup t (codeKey m (codewordAt s.inp s.pos m)) = none) →
      step s = .next (s.takeFault .unexpectedEndOfStream))

/-- The two descriptions of an element agree: decoding it to its row and running the row is what the block decoder's
pseudocode does (R150 to R159, R190 to R196). (The model's choices it speaks of: log 1, log 11.) -/
def Obligations.RowsAgreeWithTheBlockDecoder : Prop :=
  ∀ s : State, s.Inv → s.phase ≠ .idle → step s = .next s.elementStep

/-- A step always answers a next state: the machine has no stop. Every command is answered, with REFUSED at worst
(R244), and a fault leads to FAILED (R220, R161). (The rest is the model's choice: log 1, that a stream element is a
step; log 2, that a step with no command presented waits; log 11, that an EMPTY slot and a rejected number fault.) -/
def Obligations.StepNeverStops : Prop := ∀ s : State, ∃ t, step s = .next t

/-- Every step keeps the invariant: ranges, canonical window memory, fixed tables, ERR and STATE in agreement, and
every byte within CNT of the cursor written (R11, R14, R17, R18, R20 to R24). (The model's choices it speaks of: log
1; log 5: unspecified elements keep their ranges after a fault or a run; log 6: WIN is the list of the cells written;
log 8: the right to read OUT is a bit.) -/
def Obligations.StepKeepsTheInvariant : Prop :=
  ∀ s t : State, s.Inv → step s = .next t → t.Inv

/-- The state after reset has the invariant, with any input and any commands the host supplies. (The model's choices
it speaks of: log 1, log 2; log 6: no cell of WIN is listed; log 8: OUT may not be read.) -/
def Obligations.ResetHasTheInvariant : Prop :=
  ∀ (inp : List Byte) (port : List Command), (State.reset.withHost inp port).Inv

/-! ### Encoding -/

/-- Decoding what `encode` gives for a well-formed instruction gives the instruction back, for every row and every
operand (R62 to R74). -/
def Obligations.DecodeInvertsEncode : Prop := ∀ i : Instr, i.wf = true → decode (encode i) = .ok i

/-- Every number the decoder accepts for a stream element is the encoding of one well-formed instruction and of no
other (padding aside, whose bits are not looked at, R48); commands decode to well-formed instructions. -/
def Obligations.EncodeInvertsDecode : Prop :=
  (∀ (f : Format) (w : Nat) (i : Instr), f ≠ .storedPad → decode (.element f w) = .ok i →
    i.wf = true ∧ encode i = .element f w ∧ ∀ j : Instr, j.wf = true → encode j = .element f w → j = i) ∧
  (∀ (c : Command) (i : Instr), decode (.command c) = .ok i → i.wf = true ∧ isCommand i)

/-- A few words written out from the spec's encodings decode to what they stand for (R62, R64, R69, R70, R73, R74). -/
def Obligations.WrittenOutWordsDecode : Prop :=
  decode (.command ⟨0b0011, 12, 0, 0⟩) = .ok (.brRdu 12) ∧
  decode (.command ⟨0b0111, 0xFFFFFFFF, 7, 0⟩) = .ok (.swCpy (-1) 7) ∧
  decode (.command ⟨0b1111, 0, 0, 0⟩) = .ok .reserved15 ∧
  decode (.element .hdr 0b011) = .ok (.hdrFixed true) ∧
  decode (.element .hdr 0b100) = .ok (.hdrDynamic false) ∧
  decode (.element .llSymbol 0b100011101) = .ok .lsym285 ∧
  decode (.element .dSymbol 0b11110) = .ok .dsym30 ∧
  decode (.element .clSymbol 0b10010) = .ok .clsym18 ∧
  decode (.element .fixedLL 0b110010001) = .ok .fixedLit97 ∧
  decode (.element .fixedLL 0b10000000) = .ok .fixedEob ∧
  decode (.element .fixedD 0b100001) = .ok .fixedDsym1

/-! ### Responses, and the host's right to read OUT -/

/-- R63, R221, R244: the status is a 2-bit number, 0 OK, 1 NONE, 2 FAULT, 3 REFUSED. Every command gets a response.
NONE comes only from BR.TRY at the end of IN, with value 0; FAULT has as value the code ERR now holds, in FAILED;
REFUSED has value 0 and nothing else changed. (ERR and STATE agree, and POS is within IN: the premise `Inv`. That
BD.RUN is answered in one step is the model's choice, log 1.) -/
def Obligations.EveryCommandGetsANumberedResponse : Prop :=
  (Status.ok.code = 0 ∧ Status.none.code = 1 ∧ Status.fault.code = 2 ∧ Status.refused.code = 3) ∧
  ∀ (i : Instr) (s : State), isCommand i → s.Inv →
    ∃ t r, exec i s = .next t ∧ t.resp = some r ∧
      (r.status.code = 0 → t.bdState = .failed → ∃ n, i = .csrRd n) ∧
      (r.status.code = 1 → i = .brTry ∧ s.pos = 8 * s.inLen ∧ r.value = 0) ∧
      (r.status.code = 2 → t.bdState = .failed ∧ r.value.toNat = t.errCode ∧ 1 ≤ t.errCode ∧ t.errCode ≤ 16) ∧
      (r.status.code = 3 → r.value = 0 ∧ t = { s with resp := some r })

/-- R212, R240: the host may read the whole of OUT from an OK of BD.RUN until the next command that writes it: SW.CPY,
BD.RUN and RESET end the right, and so does a fault; every other command leaves it, and OUT, as they are. (That the
right is a bit of the state is the model's choice, log 8, as is BD.RUN in one step, log 1.) -/
def Obligations.TheRightToReadOutEndsWithTheNextWrite : Prop :=
  ∀ (i : Instr) (s t : State), isCommand i → s.Inv → exec i s = .next t →
    (i = .bdRun → t.hostReadOut = if t.bdState = .done then some t.out else none) ∧
    (i = .reset → t.hostReadOut = none) ∧ (∀ d l, i = .swCpy d l → t.hostReadOut = none) ∧
    (t.bdState = .failed → t.hostReadOut = none) ∧
    (i ≠ .bdRun → i ≠ .reset → (∀ d l, i ≠ .swCpy d l) → t.bdState ≠ .failed →
      t.hostReadOut = s.hostReadOut ∧ t.out = s.out)
end

