-- ==== Sys2Proof/Laws/Build.lean ====
section
/-! SUPPORT. Build: the codes it assigns, in closed form. The codes of a length start at `firstCode` and follow each
other in symbol order (spec/41_huffman.md R110, R111). -/

namespace Sys2Proof.Machine

/-- The first code of length `len`: the code space the shorter lengths use, on the scale of `len` bits (R111(b)). -/
def firstCode (lens : List Nat) (len : Nat) : Nat :=
  (lens.map fun l => if 1 ≤ l ∧ l < len then 2 ^ (len - l) else 0).sum

theorem firstCode_one (lens : List Nat) : firstCode lens 1 = 0 := by
  induction lens with
  | nil => rfl
  | cons l rest ih =>
    unfold firstCode at ih ⊢
    rw [List.map_cons, List.sum_cons, ih, if_neg (by omega)]

/-- From one length to a longer one between which no length is used: behind the last code of the shorter one, shifted
(R111(d)). -/
theorem firstCode_of_gap (lens : List Nat) {m len : Nat} (hm : 1 ≤ m) (hlt : m < len)
    (gap : ∀ l ∈ lens, l ≤ m ∨ len ≤ l) :
    firstCode lens len = (firstCode lens m + lens.count m) * 2 ^ (len - m) := by
  induction lens with
  | nil => simp [firstCode]
  | cons l rest ih =>
    have hr := ih fun l hl => gap l (List.mem_cons_of_mem _ hl)
    have one : (if 1 ≤ l ∧ l < len then 2 ^ (len - l) else 0) =
        ((if 1 ≤ l ∧ l < m then 2 ^ (m - l) else 0) + if l = m then 1 else 0) * 2 ^ (len - m) := by
      rcases Nat.lt_trichotomy l m with h | rfl | h
      · rw [if_neg (Nat.ne_of_lt h), Nat.add_zero]
        by_cases h0 : 1 ≤ l
        · rw [if_pos ⟨h0, by omega⟩, if_pos ⟨h0, h⟩, ← Nat.pow_add]; congr 1; omega
        · rw [if_neg (by omega), if_neg (by omega), Nat.zero_mul]
      · simp [hm, hlt]
      · have := gap l List.mem_cons_self
        rw [if_neg (by omega), if_neg (by omega), if_neg (by omega), Nat.zero_add, Nat.zero_mul]
    unfold firstCode at hr ⊢
    simp only [List.map_cons, List.sum_cons, List.count_cons, beq_iff_eq, hr, one]
    ring

/-- From one length to the next. -/
theorem firstCode_succ (lens : List Nat) {len : Nat} (h : 1 ≤ len) :
    firstCode lens (len + 1) = 2 * (firstCode lens len + lens.count len) := by
  rw [firstCode_of_gap lens h (Nat.lt_succ_self len) fun l _ => by omega, Nat.succ_sub (Nat.le_refl _), Nat.sub_self]; ring

/-- One length of Build: what it answers when it does not overflow. -/
theorem assignLength_ok {len : Nat} {lens : List Nat} {s next n : Nat} {t : Table}
    (h : assignLength len lens s next = .ok (n, t)) :
    n = next + lens.count len ∧
      ∀ e ∈ t, s ≤ e.2 ∧ lens[e.2 - s]? = some len ∧
        e.1 = codeKey len (next + (lens.take (e.2 - s)).count len) := by
  induction lens generalizing s next n t with
  | nil => cases h; exact ⟨rfl, fun e he => nomatch he⟩
  | cons l rest ih =>
    unfold assignLength at h
    have later : ∀ {nx : Nat} {e : Nat × Nat}, nx = next + (if l = len then 1 else 0) →
        (s + 1 ≤ e.2 ∧ rest[e.2 - (s + 1)]? = some len ∧
          e.1 = codeKey len (nx + (rest.take (e.2 - (s + 1))).count len)) →
        s ≤ e.2 ∧ (l :: rest)[e.2 - s]? = some len ∧
          e.1 = codeKey len (next + ((l :: rest).take (e.2 - s)).count len) := by
      rintro nx e rfl ⟨h1, h2, h3⟩
      obtain ⟨d, hd⟩ : ∃ d, e.2 - s = d + 1 := ⟨e.2 - s - 1, by omega⟩
      rw [show e.2 - (s + 1) = d by omega] at h2 h3
      rw [hd, List.getElem?_cons_succ, List.take_succ_cons, List.count_cons, h3]
      refine ⟨by omega, h2, ?_⟩
      simp only [beq_iff_eq]; congr 1; omega
    split at h
    · next hl =>
      subst hl
      split at h
      · cases h
      split at h
      · next ht =>
        cases h
        obtain ⟨h1, h2⟩ := ih ht
        refine ⟨by rw [h1, List.count_cons_self]; omega, fun e he => ?_⟩
        rcases List.mem_cons.mp he with rfl | he
        · exact ⟨Nat.le_refl _, by simp, by simp⟩
        · exact later (by simp) (h2 e he)
      · cases h
    · next hl =>
      obtain ⟨h1, h2⟩ := ih h
      refine ⟨by rw [h1, List.count_cons_of_ne (Ne.symm (Ne.symm hl))], fun e he => ?_⟩
      exact later (by simp [hl]) (h2 e he)

/-- The lengths from `len` on, with the counter where the shorter lengths have left it. -/
theorem assignLengths_ok {lens : List Nat} {k len next n : Nat} {t : Table} (hlen : 1 ≤ len)
    (hn : 2 * next = firstCode lens len) (h : assignLengths lens (List.range' len k) next = .ok (n, t)) :
    2 * n = firstCode lens (len + k) ∧
      ∀ e ∈ t, ∃ m, len ≤ m ∧ m < len + k ∧ lens[e.2]? = some m ∧
        e.1 = codeKey m (firstCode lens m + (lens.take e.2).count m) := by
  induction k generalizing len next n t with
  | zero => cases h; exact ⟨hn, fun e he => nomatch he⟩
  | succ k ih =>
    rw [List.range'_succ] at h
    unfold assignLengths at h
    split at h
    · cases h
    next n1 t1 ha =>
    split at h
    · cases h
    next m u hb =>
    cases h
    obtain ⟨a1, a2⟩ := assignLength_ok ha
    obtain ⟨b1, b2⟩ := ih (len := len + 1) (by omega) (by rw [a1, hn, firstCode_succ lens hlen]) hb
    refine ⟨by rw [b1]; congr 1; omega, fun e he => ?_⟩
    rcases List.mem_append.mp he with he | he
    · obtain ⟨-, c2, c3⟩ := a2 e he
      exact ⟨len, Nat.le_refl _, by omega, c2, by rw [c3, hn]; rfl⟩
    · obtain ⟨m, c1, c2, c3⟩ := b2 e he
      exact ⟨m, by omega, by omega, c3⟩

/-- Every pair of a table that Build returned: the key of the symbol's code, which is as far behind the first code of its
length as there are symbols of that length before it (R110, R111). -/
theorem build_key {lens : List Nat} {t : Table} (h : build lens = .ok t) {e : Nat × Nat} (he : e ∈ t) :
    ∃ len, 1 ≤ len ∧ len ≤ 15 ∧ lens[e.2]? = some len ∧
      e.1 = codeKey len (firstCode lens len + (lens.take e.2).count len) := by
  unfold build at h
  split at h
  · cases h
  next n u ha =>
  split at h
  · cases h
    obtain ⟨m, h1, h2, h3⟩ := (assignLengths_ok (k := 15) (Nat.le_refl 1) (firstCode_one lens).symm ha).2 e he
    exact ⟨m, h1, by omega, h3⟩
  · cases h

end Sys2Proof.Machine
end

