-- ==== Sys2Proof/Laws/Memory.lean ====
section
/-! SUPPORT. The laws of the window's memory: a read after a write, and that every operation keeps the canonical form. -/

namespace Sys2Proof.Machine

theorem Memory.read_write_same (m : Memory) (a : Nat) (v : Byte) : Memory.read (Memory.write m a v) a = some v := by
  induction m with
  | nil => simp [Memory.write, Memory.read]
  | cons c rest ih =>
    obtain ⟨k, b⟩ := c
    unfold Memory.write
    split
    · simp [Memory.read]
    · split
      · simp [Memory.read]
      · next _ h => simp [Memory.read, Ne.symm h, ih]

theorem Memory.read_write_other (m : Memory) {a b : Nat} (v : Byte) (h : b ≠ a) :
    Memory.read (Memory.write m a v) b = Memory.read m b := by
  induction m with
  | nil => simp [Memory.write, Memory.read, Ne.symm h]
  | cons c rest ih =>
    obtain ⟨k, x⟩ := c
    unfold Memory.write
    split
    · simp [Memory.read, Ne.symm h]
    · split
      · next e => subst e; simp [Memory.read, Ne.symm h]
      · simp [Memory.read, ih]

theorem Memory.read_write (m : Memory) (a b : Nat) (v : Byte) :
    Memory.read (Memory.write m a v) b = if b = a then some v else Memory.read m b := by
  split
  · next h => rw [h, Memory.read_write_same]
  · next h => exact Memory.read_write_other m v h

theorem Memory.wfFrom_write (m : Memory) {lo a : Nat} (v : Byte) (hm : Memory.wfFrom lo m = true) (hl : lo ≤ a)
    (ha : a < Config.windowSize) : Memory.wfFrom lo (Memory.write m a v) = true := by
  induction m generalizing lo with
  | nil => simp [Memory.write, Memory.wfFrom, hl, ha]
  | cons c rest ih =>
    obtain ⟨k, b⟩ := c
    simp only [Memory.wfFrom, Bool.and_eq_true, decide_eq_true_eq] at hm
    unfold Memory.write
    split
    · next h =>
      simp only [Memory.wfFrom, Bool.and_eq_true, decide_eq_true_eq]
      exact ⟨⟨hl, ha⟩, ⟨h, hm.1.2⟩, hm.2⟩
    · split
      · next e =>
        subst e
        simp only [Memory.wfFrom, Bool.and_eq_true, decide_eq_true_eq]
        exact ⟨⟨hl, ha⟩, hm.2⟩
      · next h1 h2 =>
        simp only [Memory.wfFrom, Bool.and_eq_true, decide_eq_true_eq]
        exact ⟨hm.1, ih hm.2 (by omega)⟩

/-- A write below the ring's capacity keeps the canonical form. -/
theorem Memory.wf_write (m : Memory) {a : Nat} (v : Byte) (hm : Memory.wf m = true) (ha : a < Config.windowSize) :
    Memory.wf (Memory.write m a v) = true := Memory.wfFrom_write m v hm (Nat.zero_le a) ha

theorem Memory.wf_nil : Memory.wf [] = true := rfl

/-- The window's memory has the canonical form at reset. -/
theorem State.reset_win_wf : Memory.wf State.reset.win = true := rfl

theorem State.append_win_wf (s : State) (b : Byte) (h : Memory.wf s.win = true) (hc : s.cur < Config.windowSize) :
    Memory.wf (s.append b).win = true := Memory.wf_write s.win b h hc

theorem State.emit_win_wf (s : State) (b : Byte) (h : Memory.wf s.win = true) (hc : s.cur < Config.windowSize) :
    Memory.wf (s.emit b).win = true := Memory.wf_write s.win b h hc

theorem copyLoop_cur_lt (s : State) (r n : Nat) (h : s.cur < Config.windowSize) :
    (copyLoop s r n).cur < Config.windowSize := by
  induction n generalizing s r with
  | zero => exact h
  | succ n ih => exact ih _ _ (Nat.mod_lt _ (by decide))

/-- CopyBack keeps the canonical form. -/
theorem copyLoop_win_wf (s : State) (r n : Nat) (h : Memory.wf s.win = true) (hc : s.cur < Config.windowSize) :
    Memory.wf (copyLoop s r n).win = true := by
  induction n generalizing s r with
  | zero => exact h
  | succ n ih => exact ih _ _ (s.emit_win_wf _ h hc) (Nat.mod_lt _ (by decide))

end Sys2Proof.Machine
end

