-- ==== Sys2Proof/Laws/Ops.lean ====
section
/-! SUPPORT. One lemma for each shared operation that says what it can answer: the bit reader, Decode, Append, Emit and
CopyBack, refusals, fault entry and the ends of operations. Proofs cite these and do not unfold the operations. -/

namespace Sys2Proof.Machine

/-! ### Bits -/

theorem bitAt_lt_two (inp : List Byte) (p : Nat) : bitAt inp p < 2 := Nat.mod_lt _ (by decide)

theorem bitsAt_zero (inp : List Byte) (p : Nat) : bitsAt inp p 0 = 0 := rfl

theorem bitsAt_succ (inp : List Byte) (p n : Nat) : bitsAt inp p (n + 1) = bitAt inp p + 2 * bitsAt inp (p + 1) n := rfl

theorem bitsAt_lt (inp : List Byte) (p n : Nat) : bitsAt inp p n < 2 ^ n := by
  induction n generalizing p with
  | zero => simp [bitsAt]
  | succ n ih =>
    have := ih (p + 1)
    have := bitAt_lt_two inp p
    rw [bitsAt_succ, Nat.pow_succ]; omega

/-- The field of R43 as the sum of its weighted bits. -/
theorem bitsAt_eq_sum (inp : List Byte) (p n : Nat) :
    bitsAt inp p n = ∑ k ∈ Finset.range n, bitAt inp (p + k) * 2 ^ k := by
  induction n generalizing p with
  | zero => rfl
  | succ n ih =>
    rw [bitsAt_succ, ih, Finset.sum_range_succ', Finset.mul_sum]
    simp only [Nat.add_zero, Nat.pow_zero, Nat.mul_one, Nat.pow_succ, Nat.add_assoc, Nat.add_comm 1]
    rw [Nat.add_comm]
    congr 1
    exact Finset.sum_congr rfl fun k _ => by ring

/-- Two adjacent fields. -/
theorem bitsAt_add (inp : List Byte) (p a b : Nat) :
    bitsAt inp p (a + b) = bitsAt inp p a + 2 ^ a * bitsAt inp (p + a) b := by
  induction a generalizing p with
  | zero => simp [bitsAt]
  | succ a ih =>
    rw [Nat.add_right_comm, bitsAt_succ, bitsAt_succ, ih, Nat.pow_succ, Nat.add_assoc p 1 a, Nat.add_comm 1 a]
    ring

/-! ### ReadUint -/

theorem State.readUint_ok {s : State} {n : Nat} (hn : n ≤ 31) (h : s.pos + n ≤ 8 * s.inLen) :
    s.readUint n = .ok (bitsAt s.inp s.pos n, s.withPos (s.pos + n)) := by
  simp only [State.readUint, Config.maxBitCount, Int.toNat_natCast]
  rw [if_neg (by omega), if_neg (by omega)]

theorem State.readUint_end {s : State} {n : Nat} (hn : n ≤ 31) (h : 8 * s.inLen < s.pos + n) :
    s.readUint n = .error .unexpectedEndOfStream := by
  simp only [State.readUint, Config.maxBitCount, Int.toNat_natCast]
  rw [if_neg (by omega), if_pos h]

theorem State.readUint_badCount {s : State} {n : Int} (hn : n < 0 ∨ 31 < n) :
    s.readUint n = .error .invalidBitCount := if_pos hn

/-- All that ReadUint can answer. -/
theorem State.readUint_cases {s : State} {n : Int} {r : Except FaultKind (Nat × State)} (h : s.readUint n = r) :
    ((n < 0 ∨ 31 < n) ∧ r = .error .invalidBitCount) ∨
      ∃ m : Nat, n = m ∧ m ≤ 31 ∧
        ((8 * s.inLen < s.pos + m ∧ r = .error .unexpectedEndOfStream) ∨
          (s.pos + m ≤ 8 * s.inLen ∧ r = .ok (bitsAt s.inp s.pos m, s.withPos (s.pos + m)))) := by
  subst h
  by_cases hn : n < 0 ∨ 31 < n
  · exact .inl ⟨hn, State.readUint_badCount hn⟩
  · obtain ⟨m, rfl⟩ := Int.eq_ofNat_of_zero_le (by omega : 0 ≤ n)
    have hm : m ≤ 31 := by omega
    refine .inr ⟨m, rfl, hm, ?_⟩
    by_cases he : 8 * s.inLen < s.pos + m
    · exact .inl ⟨he, State.readUint_end hm he⟩
    · exact .inr ⟨by omega, State.readUint_ok hm (by omega)⟩

/-! ### Decode -/

/-- What a successful probe loop has found: the key of the first `n` bits is in the table, none of a shorter run is. -/
theorem decodeLoop_ok {t : Table} {inp : List Byte} {left acc p key sym q : Nat}
    (h : decodeLoop t inp left acc p = .ok (key, sym, q)) :
    p < q ∧ q ≤ p + left ∧ tableLookup t key = some sym := by
  induction left generalizing acc p with
  | zero => cases h
  | succ left ih =>
    unfold decodeLoop at h
    split at h
    · next hs => cases h; exact ⟨by omega, by omega, hs⟩
    · obtain ⟨h1, h2, h3⟩ := ih h; exact ⟨by omega, by omega, h3⟩

theorem decodeLoop_error {t : Table} {inp : List Byte} {left acc p : Nat} {k : FaultKind}
    (h : decodeLoop t inp left acc p = .error k) : k = .unexpectedEndOfStream := by
  induction left generalizing acc p with
  | zero => cases h; rfl
  | succ left ih =>
    unfold decodeLoop at h
    split at h
    · cases h
    · exact ih h

/-- A successful Decode moves POS, within IN, and nothing else; its key is in the table. -/
theorem State.decodeSymbol_ok {s t : State} {tbl : Table} {key sym : Nat} (h : s.decodeSymbol tbl = .ok (key, sym, t)) :
    ∃ p, t = s.withPos p ∧ s.pos < p ∧ p ≤ s.pos + (8 * s.inLen - s.pos) ∧ tableLookup tbl key = some sym := by
  unfold State.decodeSymbol at h
  split at h
  · next hd => cases h; obtain ⟨h1, h2, h3⟩ := decodeLoop_ok hd; exact ⟨_, rfl, h1, h2, h3⟩
  · cases h

/-- A Decode can only fault because the input ends. -/
theorem State.decodeSymbol_error {s : State} {tbl : Table} {k : FaultKind} (h : s.decodeSymbol tbl = .error k) :
    k = .unexpectedEndOfStream := by
  unfold State.decodeSymbol at h
  split at h
  · cases h
  · next hd => cases h; exact decodeLoop_error hd

/-! ### The window -/

theorem State.append_windowByte (s : State) (b : Byte) (a : Nat) :
    (s.append b).windowByte a = if a = s.cur then b else s.windowByte a := by
  unfold State.windowByte State.append
  rw [Memory.read_write]
  split <;> rfl

theorem State.emit_windowByte (s : State) (b : Byte) (a : Nat) :
    (s.emit b).windowByte a = if a = s.cur then b else s.windowByte a := State.append_windowByte _ b a

/-- CopyBack changes OUT, WIN, CUR and CNT, and nothing else. -/
theorem copyLoop_frame (s : State) (r n : Nat) :
    copyLoop s r n = { s with
      out := (copyLoop s r n).out, win := (copyLoop s r n).win, cur := (copyLoop s r n).cur
      cnt := (copyLoop s r n).cnt } := by
  induction n generalizing s r with
  | zero => rfl
  | succ n ih => exact ih (s.emit (s.windowByte r)) _

theorem copyLoop_cnt (s : State) (r n : Nat) (h : s.cnt ≤ Config.windowSize) :
    (copyLoop s r n).cnt = min (s.cnt + n) Config.windowSize := by
  induction n generalizing s r with
  | zero => exact (Nat.min_eq_left h).symm
  | succ n ih =>
    show (copyLoop (s.emit (s.windowByte r)) _ n).cnt = _
    rw [ih _ _ (Nat.min_le_right _ _)]
    show min (min (s.cnt + 1) 32768 + n) 32768 = min (s.cnt + (n + 1)) 32768
    omega

theorem copyLoop_cur (s : State) (r n : Nat) (h : s.cur < Config.windowSize) :
    (copyLoop s r n).cur = (s.cur + n) % Config.windowSize := by
  induction n generalizing s r with
  | zero => exact (Nat.mod_eq_of_lt h).symm
  | succ n ih =>
    show (copyLoop (s.emit (s.windowByte r)) _ n).cur = _
    rw [ih _ _ (Nat.mod_lt _ (by decide))]
    show ((s.cur + 1) % 32768 + n) % 32768 = (s.cur + (n + 1)) % 32768
    omega

theorem copyLoop_out_length (s : State) (r n : Nat) : (copyLoop s r n).out.length = s.out.length + n := by
  induction n generalizing s r with
  | zero => rfl
  | succ n ih =>
    show (copyLoop (s.emit (s.windowByte r)) _ n).out.length = _
    rw [ih]
    show (s.out ++ [s.windowByte r]).length + n = _
    simp; omega

/-- The k-th byte of a copy at distance `d`: the last `d` bytes of the window, repeated (R132). -/
def copyByte (s : State) (d k : Nat) : Byte := s.windowByte ((s.cur + 32768 - d + k % d) % 32768)

/-- After the first byte of a copy the source has moved by one, and the byte just written takes the place of the one read. -/
theorem copyByte_emit (s : State) (d k : Nat) (hd : 1 ≤ d) (hd2 : d ≤ 32768) (hc : s.cur < 32768) :
    copyByte (s.emit (copyByte s d 0)) d k = copyByte s d (k + 1) := by
  unfold copyByte
  rw [State.emit_windowByte]
  show (if ((s.cur + 1) % 32768 + 32768 - d + k % d) % 32768 = s.cur then _
    else s.windowByte (((s.cur + 1) % 32768 + 32768 - d + k % d) % 32768)) = _
  have hk : k % d < d := Nat.mod_lt _ hd
  by_cases h : k % d + 1 = d
  · have h2 : (k + 1) % d = 0 := by
      rw [Nat.add_mod]
      rcases Nat.eq_or_lt_of_le hd with h1 | h1
      · subst h1; exact Nat.mod_one _
      · rw [Nat.mod_eq_of_lt h1, h, Nat.mod_self]
    rw [if_pos (by omega), h2, Nat.zero_mod]
  · have h2 : (k + 1) % d = k % d + 1 := by
      rw [Nat.add_mod, Nat.mod_eq_of_lt (by omega : 1 < d), Nat.mod_eq_of_lt (by omega)]
    rw [if_neg (by omega), h2]
    congr 1; omega

/-- What CopyBack appends, where it puts it in the window, and that every other cell stays (R131, R132). -/
theorem copyLoop_spec (s : State) (d l r : Nat) (hd : 1 ≤ d) (hd2 : d ≤ 32768) (hc : s.cur < 32768)
    (hr : r = (s.cur + 32768 - d) % 32768) :
    (copyLoop s r l).out = s.out ++ (List.range l).map (copyByte s d) ∧
    (∀ k, k < l → l ≤ k + 32768 → (copyLoop s r l).windowByte ((s.cur + k) % 32768) = copyByte s d k) ∧
    (∀ a, a < 32768 → (∀ k, k < l → a ≠ (s.cur + k) % 32768) → (copyLoop s r l).windowByte a = s.windowByte a) := by
  induction l generalizing s r with
  | zero => exact ⟨by simp [copyLoop], fun k h => by omega, fun _ _ _ => rfl⟩
  | succ l ih =>
    have hb : s.windowByte r = copyByte s d 0 := by unfold copyByte; rw [Nat.zero_mod, hr]; rfl
    show ((copyLoop (s.emit (s.windowByte r)) ((r+1) % 32768) l).out = _) ∧
      (∀ k, k < l + 1 → l + 1 ≤ k + 32768 →
        (copyLoop (s.emit (s.windowByte r)) ((r+1) % 32768) l).windowByte _ = _) ∧
      (∀ a, a < 32768 → _ → (copyLoop (s.emit (s.windowByte r)) ((r+1) % 32768) l).windowByte _ = _)
    rw [hb]
    obtain ⟨h1, h2, h3⟩ := ih (s.emit (copyByte s d 0)) ((r+1) % 32768) (Nat.mod_lt _ (by decide)) (by
      show _ = ((s.cur + 1) % 32768 + 32768 - d) % 32768
      omega)
    have hcur : (s.emit (copyByte s d 0)).cur = (s.cur + 1) % 32768 := rfl
    have hout : (s.emit (copyByte s d 0)).out = s.out ++ [copyByte s d 0] := rfl
    rw [hcur] at h2 h3
    refine ⟨?_, fun k hk hk2 => ?_, fun a ha hk => ?_⟩
    · rw [h1, hout, List.range_succ_eq_map, List.map_cons, List.append_assoc, List.map_map]
      rw [List.map_congr_left fun k _ => copyByte_emit s d k hd hd2 hc]; rfl
    · rcases k with _ | k
      · rw [h3 _ (Nat.mod_lt _ (by decide)) (fun k hk => by omega), State.emit_windowByte,
          if_pos (by rw [Nat.add_zero, Nat.mod_eq_of_lt hc])]
      · have := h2 k (by omega) (by omega)
        rw [copyByte_emit s d k hd hd2 hc] at this
        rw [← this]; congr 1; omega
    · rw [h3 a ha (fun k hk' => by have := hk (k+1) (by omega); omega), State.emit_windowByte, if_neg]
      have := hk 0 (by omega); omega

/-- All that CopyBack can answer; the distance is tested first. -/
theorem State.copyBack_cases {s : State} {d l : Int} {r : Except FaultKind State} (h : s.copyBack d l = r) :
    ((d < 1 ∨ (s.cnt : Int) < d) ∧ r = .error .invalidDistance) ∨
      (1 ≤ d ∧ d ≤ s.cnt ∧ l < 0 ∧ r = .error .invalidLength) ∨
      (1 ≤ d ∧ d ≤ s.cnt ∧ 0 ≤ l ∧
        r = .ok (copyLoop s (((s.cur : Int) - d) % Config.windowSize).toNat l.toNat)) := by
  subst h
  unfold State.copyBack
  split
  · next hd => exact .inl ⟨hd, rfl⟩
  · split
    · next hl => exact .inr (.inl ⟨by omega, by omega, hl, rfl⟩)
    · exact .inr (.inr ⟨by omega, by omega, by omega, rfl⟩)

/-! ### The list of code lengths -/

/-- A run of code lengths that fits into LENBUF replaces the entries from LEN_CNT on (R193). -/
theorem State.pushLengths_eq (s : State) (n v : Nat) (h : s.lenCnt + n ≤ s.lenBuf.length) :
    s.pushLengths n v = { s with
      lenBuf := s.lenBuf.take s.lenCnt ++ List.replicate n v ++ s.lenBuf.drop (s.lenCnt + n)
      lenCnt := s.lenCnt + n } := by
  induction n generalizing s with
  | zero => simp [State.pushLengths]
  | succ n ih =>
    have hb : (s.pushLength v).lenBuf = s.lenBuf.take s.lenCnt ++ v :: s.lenBuf.drop (s.lenCnt + 1) :=
      List.set_eq_take_append_cons_drop.trans (if_pos (by omega))
    have hl : (s.lenBuf.take s.lenCnt).length = s.lenCnt := by rw [List.length_take]; omega
    show (s.pushLength v).pushLengths n v = _
    rw [ih (s.pushLength v) (by
      show s.lenCnt + 1 + n ≤ (s.lenBuf.set s.lenCnt v).length
      rw [List.length_set]; omega), hb]
    show ({ s with lenBuf := _, lenCnt := s.lenCnt + 1 + n } : State) = _
    congr 1
    · rw [show (s.pushLength v).lenCnt = (s.lenBuf.take s.lenCnt).length + 1 by rw [hl]; rfl,
        List.take_length_add_append, Nat.add_assoc, List.drop_length_add_append, Nat.add_comm 1 n,
        List.drop_succ_cons, List.drop_drop]
      simp [List.replicate_succ, Nat.add_comm, Nat.add_left_comm]
    · omega

/-! ### Refusals and faults -/

theorem unlessFailed_of_failed {s : State} (h : s.bdState = .failed) (r : Result) :
    unlessFailed s r = .next { s with resp := some ⟨.refused, 0⟩ } := if_pos h

theorem unlessFailed_of_not_failed {s : State} (h : s.bdState ≠ .failed) (r : Result) : unlessFailed s r = r := if_neg h

/-- An operation that may raise always answers a next state: its own, or fault entry. -/
theorem finish_cases {s t : State} {r : Except FaultKind State} (h : finish s r = .next t) :
    r = .ok t ∨ ∃ k, r = .error k ∧ t = s.takeFault k := by
  unfold finish at h
  split at h
  · cases h; exact .inl rfl
  · cases h; exact .inr ⟨_, rfl, rfl⟩

theorem finish_next (s : State) (r : Except FaultKind State) : ∃ t, finish s r = .next t := by
  cases r <;> exact ⟨_, rfl⟩

theorem inPlace_true (s : State) (r : Except FaultKind State) : inPlace true s r = finish s r := rfl

theorem inPlace_cases {ok : Bool} {s t : State} {r : Except FaultKind State} (h : inPlace ok s r = .next t) :
    ok = true ∧ (r = .ok t ∨ ∃ k, r = .error k ∧ t = s.takeFault k) := by
  cases ok
  · cases h
  · exact ⟨rfl, finish_cases h⟩

/-- Fault entry reads only IN, the fixed tables, ERR, the port and the counter of the free values. POS is not among them,
so fault entry is the same before and after a fetch. -/
theorem State.takeFault_withPos (s : State) (p : Nat) (k : FaultKind) : (s.withPos p).takeFault k = s.takeFault k := rfl

end Sys2Proof.Machine
end

