-- ==== Sys2Proof/Laws/Codeword.lean ====
section
/-! SUPPORT. Decode and the codeword at POS: the probe loop finds exactly the codeword whose key is in the table. -/

namespace Sys2Proof.Machine

/-- One more bit of a codeword extends its key as the accumulator of Decode does (R44, R112). -/
theorem codeKey_codewordAt_succ (inp : List Byte) (p m : Nat) :
    codeKey (m + 1) (codewordAt inp p (m + 1)) = 2 * codeKey m (codewordAt inp p m) + bitAt inp (p + m) := by
  simp only [codeKey, codewordAt, Nat.pow_succ]; omega

/-- The probe loop stops at the first key of the sequence `K` that is in the table. -/
theorem decodeLoop_of_first (t : Table) (inp : List Byte) (len sym : Nat) (acc p left : Nat) (hl : 1 ≤ len)
    (hle : len ≤ left) (K : Nat → Nat) (hK0 : K 0 = acc) (hK : ∀ m, K (m+1) = 2 * K m + bitAt inp (p + m))
    (h1 : tableLookup t (K len) = some sym) (h2 : ∀ m, 1 ≤ m → m < len → tableLookup t (K m) = none) :
    decodeLoop t inp left acc p = .ok (K len, sym, p + len) := by
  induction len generalizing left acc p K with
  | zero => omega
  | succ len ih =>
    obtain ⟨left, rfl⟩ : ∃ l, left = l + 1 := ⟨left - 1, by omega⟩
    unfold decodeLoop
    have e1 : 2 * acc + bitAt inp p = K 1 := by rw [hK, hK0]; rfl
    rw [e1]
    by_cases hz : len = 0
    · subst hz; simp only [Nat.zero_add] at h1 ⊢; rw [h1]
    · rw [h2 1 (by omega) (by omega)]
      have := ih (K 1) (p+1) left (by omega) (by omega) (fun m => K (m+1)) rfl (fun m => by
        show K (m+1+1) = _; rw [hK, Nat.add_assoc p, Nat.add_comm 1 m]) h1 (fun m _ _ => h2 (m+1) (by omega) (by omega))
      rw [this, Nat.add_assoc, Nat.add_comm 1]

/-- With no key of the sequence in the table the input ends. -/
theorem decodeLoop_of_none (t : Table) (inp : List Byte) (acc p left : Nat)
    (K : Nat → Nat) (hK0 : K 0 = acc) (hK : ∀ m, K (m+1) = 2 * K m + bitAt inp (p + m))
    (h2 : ∀ m, 1 ≤ m → m ≤ left → tableLookup t (K m) = none) :
    decodeLoop t inp left acc p = .error .unexpectedEndOfStream := by
  induction left generalizing acc p K with
  | zero => rfl
  | succ left ih =>
    unfold decodeLoop
    have e1 : 2 * acc + bitAt inp p = K 1 := by rw [hK, hK0]; rfl
    rw [e1, h2 1 (by omega) (by omega)]
    exact ih (K 1) (p+1) (fun m => K (m+1)) rfl (fun m => by
        show K (m+1+1) = _; rw [hK, Nat.add_assoc p, Nat.add_comm 1 m]) (fun m _ _ => h2 (m+1) (by omega) (by omega))

/-- Decode answers the codeword that stands at POS. -/
theorem State.decodeSymbol_of_codewordHere {s : State} {t : Table} {len sym : Nat} (h : s.codewordHere t len sym) :
    s.decodeSymbol t = .ok (codeKey len (codewordAt s.inp s.pos len), sym, s.withPos (s.pos + len)) := by
  obtain ⟨h1, h2, h3, h4⟩ := h
  unfold State.decodeSymbol
  rw [decodeLoop_of_first t s.inp len sym 1 s.pos _ h1 (by omega) (fun m => codeKey m (codewordAt s.inp s.pos m)) rfl
    (fun m => codeKey_codewordAt_succ _ _ _) h3 h4]

/-- Without a codeword of the table that ends within IN, Decode faults. -/
theorem State.decodeSymbol_of_none {s : State} {t : Table}
    (h : ∀ m, 1 ≤ m → s.pos + m ≤ 8 * s.inLen → tableLookup t (codeKey m (codewordAt s.inp s.pos m)) = none) :
    s.decodeSymbol t = .error .unexpectedEndOfStream := by
  unfold State.decodeSymbol
  rw [decodeLoop_of_none t s.inp 1 s.pos _ (fun m => codeKey m (codewordAt s.inp s.pos m)) rfl
    (fun m => codeKey_codewordAt_succ _ _ _) (fun m h1 h2 => h m h1 (by omega))]

end Sys2Proof.Machine
end

