-- ==== Sys2Proof/Laws/Exec.lean ====
section
/-! SUPPORT. What `exec` calls for the instructions of one format: each lemma covers every constructor whose encoding has
that format. -/

namespace Sys2Proof.Machine

theorem exec_of_llSymbol {i : Instr} {sym : Nat} (h : encode i = .element .llSymbol sym) (s : State) :
    exec i s = literalLengthElement sym s := by
  cases i <;> (cases h <;> rfl)

theorem exec_of_dSymbol {i : Instr} {sym : Nat} (h : encode i = .element .dSymbol sym) (s : State) :
    exec i s = distanceElement sym s := by
  cases i <;> (cases h <;> rfl)

theorem exec_of_clSymbol {i : Instr} {sym : Nat} (h : encode i = .element .clSymbol sym) (s : State) :
    exec i s = codeLengthElement sym s := by
  cases i <;> (cases h <;> rfl)

theorem exec_of_preCll {i : Instr} {group v : Nat} (h : encode i = .element (.preCll group) v) (s : State) :
    exec i s = preambleGroup group v s := by
  cases i <;> (cases h <;> rfl)

theorem exec_of_fixedLL {i : Instr} {key sym : Nat} (h : encode i = .element .fixedLL key)
    (hk : fixedLLSymbolOfKey key = some sym) (s : State) : exec i s = fixedElement sym s := by
  cases i <;> (cases h <;> (cases hk; rfl))

theorem exec_of_fixedD {i : Instr} {key sym : Nat} (h : encode i = .element .fixedD key)
    (hk : fixedDSymbolOfKey key = some sym) (s : State) : exec i s = fixedDistanceElement sym s := by
  cases i <;> (cases h <;> (cases hk; rfl))

/-- A header's row. -/
theorem exec_of_hdr {i : Instr} {w : Nat} (h : encode i = .element .hdr w) :
    ∃ (f : Bool) (ty : Nat), ty < 4 ∧ w = f.toNat + 2 * ty ∧
      ∀ s, exec i s = inPlace (s.phase == .header) s (s.blockHeader f ty) := by
  cases i <;> (cases h <;> exact ⟨_, _, by decide, rfl, fun _ => rfl⟩)

theorem exec_of_storedPad {i : Instr} {w : Nat} (h : encode i = .element .storedPad w) (s : State) :
    exec i s = execStoredPad s := by
  cases i <;> (cases h <;> rfl)

theorem exec_of_storedLen {i : Instr} {w : Nat} (h : encode i = .element .storedLen w) (s : State) :
    exec i s = execStoredLen w s := by
  cases i <;> (cases h <;> rfl)

theorem exec_of_storedNlen {i : Instr} {w : Nat} (h : encode i = .element .storedNlen w) (s : State) :
    exec i s = execStoredNlen w s := by
  cases i <;> (cases h <;> rfl)

theorem exec_of_storedData {i : Instr} {w : Nat} (h : encode i = .element .storedData w) (s : State) :
    exec i s = execStoredData w s := by
  cases i <;> (cases h <;> rfl)

theorem exec_of_preHlit {i : Instr} {w : Nat} (h : encode i = .element .preHlit w) (s : State) :
    exec i s = execPreHlit w s := by
  cases i <;> (cases h <;> rfl)

theorem exec_of_preHdist {i : Instr} {w : Nat} (h : encode i = .element .preHdist w) (s : State) :
    exec i s = execPreHdist w s := by
  cases i <;> (cases h <;> rfl)

theorem exec_of_preHclen {i : Instr} {w : Nat} (h : encode i = .element .preHclen w) (s : State) :
    exec i s = execPreHclen w s := by
  cases i <;> (cases h <;> rfl)

/-- The key of a row of the fixed literal/length table is that of a symbol. -/
theorem fixedLL_key_some {i : Instr} {key : Nat} (h : encode i = .element .fixedLL key) :
    ∃ sym, fixedLLSymbolOfKey key = some sym := by
  cases i <;> (cases h <;> exact ⟨_, rfl⟩)

/-- The key of a row of the fixed distance table is that of a symbol. -/
theorem fixedD_key_some {i : Instr} {key : Nat} (h : encode i = .element .fixedD key) :
    ∃ sym, fixedDSymbolOfKey key = some sym := by
  cases i <;> (cases h <;> exact ⟨_, rfl⟩)

/-- Every row of a literal/length symbol does the same (R155: "shared by fixed and dynamic blocks"). -/
theorem exec_of_standsForLiteralLength {i : Instr} {s : State} {sym : Nat} (h : standsForLiteralLength i s sym) :
    exec i s = literalLengthElement sym s := by
  obtain h | ⟨hb, key, h, hk⟩ := h
  · exact exec_of_llSymbol h s
  · rw [exec_of_fixedLL h hk]; simp [fixedElement, hb]

/-- Every row of a distance symbol does the same. -/
theorem exec_of_standsForDistance {i : Instr} {s : State} {sym : Nat} (h : standsForDistance i s sym) :
    exec i s = distanceElement sym s := by
  obtain h | ⟨hb, key, h, hk⟩ := h
  · exact exec_of_dSymbol h s
  · rw [exec_of_fixedD h hk]; simp [fixedDistanceElement, hb]

end Sys2Proof.Machine
end

