-- ==== Sys2Proof/Laws/Invariant.lean ====
section
/-! SUPPORT. What each shared operation does to the invariant `State.Inv`. -/

namespace Sys2Proof.Machine

/-! ### Inside a run -/

/-- Inside a run STATE is not FAILED. -/
theorem State.Inv.not_failed {s : State} (h : s.Inv) (hp : s.phase ≠ .idle) : s.bdState ≠ .failed := by
  have hpl := h.place
  unfold State.placeOk State.huffmanReady at hpl
  intro hf
  rw [hf] at hpl
  cases hph : s.phase <;> simp [hph] at hpl hp

/-- Inside a run the host may not read OUT. -/
theorem State.Inv.not_ready {s : State} (h : s.Inv) (hp : s.phase ≠ .idle) : s.outReady = false := by
  cases hr : s.outReady
  · rfl
  · exact absurd (h.ready_done hr).1 hp

/-- Outside FAILED no fault is recorded. -/
theorem State.Inv.err_none {s : State} (h : s.Inv) (hf : s.bdState ≠ .failed) : s.err = none := by
  cases he : s.err
  · rfl
  · exact absurd (h.err_failed.mp (by rw [he]; rfl)) hf

/-! ### Operations -/

theorem State.Inv.withPos {s : State} (h : s.Inv) {p : Nat} (hp : p ≤ 8 * s.inp.length) : (s.withPos p).Inv :=
  { h with pos_le := hp }

/-- A new place that the state allows. -/
theorem State.Inv.goto {s : State} (h : s.Inv) (hr : s.outReady = false) {p : Phase} (hp : (s.goto p).placeOk) :
    (s.goto p).Inv :=
  { h with place := hp, ready_done := fun hx => absurd (hr.symm.trans hx) (by decide) }

theorem State.Inv.enter {s : State} (h : s.Inv) (hr : s.outReady = false) (he : s.err = none)
    (hb : s.bdState ≠ .failed) {b : BdState} {p : Phase} (hbf : b ≠ .failed) (hp : (s.enter b p).placeOk) :
    (s.enter b p).Inv :=
  { h with
    backed := fun _ => h.backed hb
    err_failed := ⟨fun hx => absurd hx (by show ¬ s.err.isSome = true; rw [he]; decide), fun hx => absurd hx hbf⟩
    place := hp
    ready_done := fun hx => absurd (hr.symm.trans hx) (by decide) }

theorem State.windowBacked_append {s : State} (h : s.windowBacked) (hc : s.cur < Config.windowSize) (b : Byte) :
    (s.append b).windowBacked := by
  intro d h1 h2
  have hc' : s.cur < 32768 := hc
  show (Memory.read (Memory.write s.win s.cur b) (((s.cur + 1) % 32768 + 32768 - d) % 32768)).isSome = true
  change d ≤ min (s.cnt + 1) 32768 at h2
  rw [Memory.read_write]
  split
  · rfl
  · next hne =>
    have hd : d ≠ 1 := by rintro rfl; exact hne (by omega)
    have := h (d - 1) (by omega) (by omega)
    rwa [show ((s.cur + 1) % 32768 + 32768 - d) % 32768 = (s.cur + Config.windowSize - (d - 1)) % Config.windowSize by
      show _ = (s.cur + 32768 - (d - 1)) % 32768; omega]

theorem State.Inv.append {s : State} (h : s.Inv) (b : Byte) : (s.append b).Inv :=
  { h with
    win_wf := s.append_win_wf b h.win_wf h.cur_lt
    cur_lt := Nat.mod_lt _ (by decide)
    cnt_le := Nat.min_le_right _ _
    backed := fun hb => State.windowBacked_append (h.backed hb) h.cur_lt b }

theorem State.Inv.emit {s : State} (h : s.Inv) (b : Byte) : (s.emit b).Inv :=
  State.Inv.append (s := { s with out := s.out ++ [b] }) { h with } b

theorem State.Inv.copyLoop {s : State} (h : s.Inv) (r n : Nat) : (copyLoop s r n).Inv := by
  induction n generalizing s r with
  | zero => exact h
  | succ n ih => exact ih (h.emit _) _

/-! ### Free values keep their ranges -/

theorem slotBuilt_none : slotBuilt none := fun _ h => by cases h

theorem slotBuilt_some {lens : List Nat} {t : Table} (hl : lens.length ≤ 320) (hv : ∀ l ∈ lens, l ≤ 15)
    (hb : build lens = .ok t) : slotBuilt (some t) := fun _ h => by cases h; exact ⟨lens, hl, hv, hb⟩

theorem State.freeTable_built (s : State) (slot : Nat) : slotBuilt (s.freeTable slot) := by
  intro t ht
  refine ⟨(List.range (s.freeNat .table (slot * 1000) % 321)).map
    fun i => s.freeNat .table (slot * 1000 + 1 + i) % 16, ?_, ?_, ?_⟩
  · rw [List.length_map, List.length_range]; have := Nat.mod_lt (s.freeNat .table (slot * 1000)) (y := 321); omega
  · intro l hl
    obtain ⟨i, _, rfl⟩ := List.mem_map.mp hl
    have := Nat.mod_lt (s.freeNat .table (slot * 1000 + 1 + i)) (y := 16); omega
  · simp only [State.freeTable, buildOrEmpty] at ht
    revert ht
    cases build ((List.range (s.freeNat .table (slot * 1000) % 321)).map
      fun i => s.freeNat .table (slot * 1000 + 1 + i) % 16) with
    | ok u => intro ht; cases ht; rfl
    | error k => intro ht; cases ht

theorem State.freeList_ok (s : State) (item : Config.FreeItem) (n b : Nat) (hb : 0 < b) :
    (s.freeList item n b).length = n ∧ ∀ v ∈ s.freeList item n b, v ≤ b - 1 := by
  refine ⟨by simp [State.freeList], fun v hv => ?_⟩
  obtain ⟨i, _, rfl⟩ := List.mem_map.mp hv
  have := Nat.mod_lt (s.freeNat item (i + 1)) hb
  omega

theorem State.Inv.unspecifyPreamble {s : State} (h : s.Inv) (hp : s.unspecifyPreamble.placeOk) :
    s.unspecifyPreamble.Inv :=
  { h with
    clc_built := s.freeTable_built 2
    dynLL_built := s.freeTable_built 3
    dynD_built := s.freeTable_built 4
    nlit_range := by
      show 257 ≤ 257 + s.freeNat .nlit 0 % 32 ∧ 257 + s.freeNat .nlit 0 % 32 ≤ 288
      have := Nat.mod_lt (s.freeNat .nlit 0) (y := 32); omega
    ndist_range := by
      show 1 ≤ 1 + s.freeNat .ndist 0 % 32 ∧ 1 + s.freeNat .ndist 0 % 32 ≤ 32
      have := Nat.mod_lt (s.freeNat .ndist 0) (y := 32); omega
    nclen_range := by
      show 4 ≤ 4 + s.freeNat .nclen 0 % 16 ∧ 4 + s.freeNat .nclen 0 % 16 ≤ 19
      have := Nat.mod_lt (s.freeNat .nclen 0) (y := 16); omega
    cll_ok := s.freeList_ok .cll 19 8 (by decide)
    lenBuf_ok := s.freeList_ok .lenBuf 320 16 (by decide)
    lenCnt_le := by
      show s.freeNat .lenCnt 0 % 321 ≤ 320
      have := Nat.mod_lt (s.freeNat .lenCnt 0) (y := 321); omega
    place := hp }

/-- Fault entry leaves every element within its range. -/
theorem State.Inv.takeFault {s : State} (h : s.Inv) (k : FaultKind) : (s.takeFault k).Inv where
  pos_le := by
    show s.freeNat .pos 0 % (8 * s.inp.length + 1) ≤ 8 * s.inp.length
    have := Nat.mod_lt (s.freeNat .pos 0) (y := 8 * s.inp.length + 1); omega
  fixedLL := h.fixedLL
  fixedD := h.fixedD
  clc_built := s.freeTable_built 2
  dynLL_built := s.freeTable_built 3
  dynD_built := s.freeTable_built 4
  win_wf := rfl
  cur_lt := Nat.mod_lt _ (by decide)
  cnt_le := by
    show s.freeNat .cnt 0 % 32769 ≤ 32768
    have := Nat.mod_lt (s.freeNat .cnt 0) (y := 32769); omega
  backed := fun hb => absurd rfl hb
  type_lt := Nat.mod_lt _ (by decide)
  nlit_range := by
    show 257 ≤ 257 + s.freeNat .nlit 0 % 32 ∧ 257 + s.freeNat .nlit 0 % 32 ≤ 288
    have := Nat.mod_lt (s.freeNat .nlit 0) (y := 32); omega
  ndist_range := by
    show 1 ≤ 1 + s.freeNat .ndist 0 % 32 ∧ 1 + s.freeNat .ndist 0 % 32 ≤ 32
    have := Nat.mod_lt (s.freeNat .ndist 0) (y := 32); omega
  nclen_range := by
    show 4 ≤ 4 + s.freeNat .nclen 0 % 16 ∧ 4 + s.freeNat .nclen 0 % 16 ≤ 19
    have := Nat.mod_lt (s.freeNat .nclen 0) (y := 16); omega
  cll_ok := s.freeList_ok .cll 19 8 (by decide)
  lenBuf_ok := s.freeList_ok .lenBuf 320 16 (by decide)
  lenCnt_le := by
    show s.freeNat .lenCnt 0 % 321 ≤ 320
    have := Nat.mod_lt (s.freeNat .lenCnt 0) (y := 321); omega
  err_failed := ⟨fun _ => rfl, fun _ => rfl⟩
  place := .inr (.inr rfl)
  ready_done := fun hx => by cases hx

/-! ### The ends of blocks and of the stream -/

theorem State.Inv.endRun {s : State} (h : s.Inv) (hb : s.bdState ≠ .failed) : s.endRun.Inv where
  pos_le := by
    have := h.pos_le
    show (s.pos + 7) / 8 * 8 ≤ 8 * s.inp.length
    omega
  fixedLL := h.fixedLL
  fixedD := h.fixedD
  clc_built := s.freeTable_built 2
  dynLL_built := s.freeTable_built 3
  dynD_built := s.freeTable_built 4
  win_wf := h.win_wf
  cur_lt := h.cur_lt
  cnt_le := h.cnt_le
  backed := fun _ => h.backed hb
  type_lt := h.type_lt
  nlit_range := by
    show 257 ≤ 257 + s.freeNat .nlit 0 % 32 ∧ 257 + s.freeNat .nlit 0 % 32 ≤ 288
    have := Nat.mod_lt (s.freeNat .nlit 0) (y := 32); omega
  ndist_range := by
    show 1 ≤ 1 + s.freeNat .ndist 0 % 32 ∧ 1 + s.freeNat .ndist 0 % 32 ≤ 32
    have := Nat.mod_lt (s.freeNat .ndist 0) (y := 32); omega
  nclen_range := by
    show 4 ≤ 4 + s.freeNat .nclen 0 % 16 ∧ 4 + s.freeNat .nclen 0 % 16 ≤ 19
    have := Nat.mod_lt (s.freeNat .nclen 0) (y := 16); omega
  cll_ok := s.freeList_ok .cll 19 8 (by decide)
  lenBuf_ok := s.freeList_ok .lenBuf 320 16 (by decide)
  lenCnt_le := by
    show s.freeNat .lenCnt 0 % 321 ≤ 320
    have := Nat.mod_lt (s.freeNat .lenCnt 0) (y := 321); omega
  err_failed := ⟨fun hx => absurd hx (by show ¬ s.err.isSome = true; rw [h.err_none hb]; decide), fun hx => by cases hx⟩
  place := .inr (.inl rfl)
  ready_done := fun _ => ⟨rfl, rfl⟩

theorem State.Inv.endBlock {s : State} (h : s.Inv) (hp : s.phase ≠ .idle) : s.endBlock.Inv := by
  have hb := h.not_failed hp
  unfold State.endBlock
  split
  · exact h.endRun hb
  · exact h.enter (h.not_ready hp) (h.err_none hb) hb (by decide) rfl

end Sys2Proof.Machine
end

