-- ==== Sys2Proof/Laws/Elements.lean ====
section
/-! SUPPORT. The invariant through the stream elements of a run: each operation of the block decoder keeps `State.Inv`
when it runs at the place where the decoder reads its element. -/

namespace Sys2Proof.Machine

/-- A header (R151, R152, R154). -/
theorem State.Inv.blockHeader {s t : State} (h : s.Inv) (hp : s.phase = .header) {f : Bool} {ty : Nat}
    (he : s.blockHeader f ty = .ok t) : t.Inv := by
  have hi : s.phase ≠ .idle := by rw [hp]; decide
  have hr := h.not_ready hi
  have hn := h.not_failed hi
  have h0 := h.err_none hn
  have key : ∀ (a : Nat) (d : Bool) (b : BdState) (p : Phase), a < 4 → b ≠ .failed →
      (({ s with final := f, type := a, distPresent := d } : State).enter b p).placeOk →
      (({ s with final := f, type := a, distPresent := d } : State).enter b p).Inv := fun a d b p ha hb hpl =>
    { h with
      type_lt := ha
      backed := fun _ => h.backed hn
      err_failed := ⟨fun hx => absurd hx (by show ¬ s.err.isSome = true; rw [h0]; decide), fun hx => absurd hx hb⟩
      place := hpl
      ready_done := fun hx => absurd (hr.symm.trans hx) (by decide) }
  unfold State.blockHeader at he
  split at he
  · cases he; exact key 0 s.distPresent .storedBlock .storedPad (by decide) (by decide) rfl
  · cases he; exact key 1 true .fixedHuffmanBlock .symbol (by decide) (by decide) (.inl ⟨rfl, rfl⟩)
  · cases he; exact key 2 s.distPresent .dynamicHuffmanBlock .preHlit (by decide) (by decide) rfl
  · cases he

/-- The padding of a stored block (R153). -/
theorem State.Inv.skipPadding {s : State} (h : s.Inv) (hp : s.phase = .storedPad) : s.skipPadding.Inv := by
  have hpl : s.placeOk := h.place
  simp only [State.placeOk, hp] at hpl
  have hle : (s.pos + 7) / 8 * 8 ≤ 8 * s.inp.length := by have := h.pos_le; omega
  exact (h.withPos hle).goto (h.not_ready (by rw [hp]; decide)) hpl

/-- LEN (R153). -/
theorem State.Inv.storedLength {s : State} (h : s.Inv) (hp : s.phase = .storedLen) {w : Nat} (hw : w < 65536) :
    (s.storedLength w).Inv := by
  have hpl : s.placeOk := h.place
  simp only [State.placeOk, hp] at hpl
  exact h.goto (h.not_ready (by rw [hp]; decide)) ⟨hpl, hw⟩

/-- NLEN (R153). -/
theorem State.Inv.storedComplement {s t : State} (h : s.Inv) {len w : Nat} (hp : s.phase = .storedNlen len)
    (he : s.storedComplement len w = .ok t) : t.Inv := by
  have hpl : s.placeOk := h.place
  simp only [State.placeOk, hp] at hpl
  have hi : s.phase ≠ .idle := by rw [hp]; exact Phase.noConfusion
  unfold State.storedComplement at he
  split at he
  · cases he
    split
    · exact h.endBlock hi
    · next hz => exact h.goto (h.not_ready hi) ⟨hpl.1, Nat.pos_of_ne_zero hz, hpl.2⟩
  · cases he

/-- A stored data byte (R153). -/
theorem State.Inv.storedByte {s : State} (h : s.Inv) {left : Nat} (hp : s.phase = .storedData left) (b : Nat) :
    (s.storedByte left b).Inv := by
  have hpl : s.placeOk := h.place
  simp only [State.placeOk, hp] at hpl
  have hi : s.phase ≠ .idle := by rw [hp]; exact Phase.noConfusion
  have hem := h.emit (BitVec.ofNat 8 b)
  unfold State.storedByte
  dsimp only
  split
  · exact hem.endBlock hi
  · exact hem.goto (h.not_ready hi) ⟨hpl.1, by omega, by omega⟩

/-- HLIT, HDIST and HCLEN (R190, R191). -/
theorem State.Inv.setHlit {s : State} (h : s.Inv) (hp : s.phase = .preHlit) {w : Nat} (hw : w < 32) :
    (s.setHlit w).Inv := by
  have hpl : s.placeOk := h.place
  simp only [State.placeOk, hp] at hpl
  exact { h with
    nlit_range := by show 257 ≤ w + 257 ∧ w + 257 ≤ 288; omega
    place := hpl
    ready_done := fun hx => absurd ((h.not_ready (by rw [hp]; decide)).symm.trans hx) (by decide) }

theorem State.Inv.setHdist {s : State} (h : s.Inv) (hp : s.phase = .preHdist) {w : Nat} (hw : w < 32) :
    (s.setHdist w).Inv := by
  have hpl : s.placeOk := h.place
  simp only [State.placeOk, hp] at hpl
  exact { h with
    ndist_range := by show 1 ≤ w + 1 ∧ w + 1 ≤ 32; omega
    place := hpl
    ready_done := fun hx => absurd ((h.not_ready (by rw [hp]; decide)).symm.trans hx) (by decide) }

theorem State.Inv.setHclen {s : State} (h : s.Inv) (hp : s.phase = .preHclen) {w : Nat} (hw : w < 16) :
    (s.setHclen w).Inv := by
  have hpl : s.placeOk := h.place
  simp only [State.placeOk, hp] at hpl
  exact { h with
    nclen_range := by show 4 ≤ w + 4 ∧ w + 4 ≤ 19; omega
    cll_ok := ⟨rfl, fun v hv => by rw [List.eq_of_mem_replicate hv]; decide⟩
    place := ⟨hpl, by show 0 < w + 4; omega⟩
    ready_done := fun hx => absurd ((h.not_ready (by rw [hp]; decide)).symm.trans hx) (by decide) }

/-- A list with one entry replaced keeps its length and a bound of its entries. -/
theorem list_set_ok {l : List Nat} {n b i v : Nat} (h : l.length = n ∧ ∀ x ∈ l, x ≤ b) (hv : v ≤ b) :
    (l.set i v).length = n ∧ ∀ x ∈ l.set i v, x ≤ b := by
  refine ⟨by rw [List.length_set]; exact h.1, fun x hx => ?_⟩
  rcases List.mem_or_eq_of_mem_set hx with hm | rfl
  · exact h.2 x hm
  · exact hv

/-- A 3-bit group, and the construction of the code-length code after the last one (R191, R192). -/
theorem State.Inv.setGroup {s t : State} (h : s.Inv) {group v : Nat} (hp : s.phase = .preCll group) (hv : v < 8)
    (he : s.setGroup group v = .ok t) : t.Inv := by
  have hpl : s.placeOk := h.place
  simp only [State.placeOk, hp] at hpl
  have hr := h.not_ready (by rw [hp]; exact Phase.noConfusion)
  have hn := h.not_failed (by rw [hp]; exact Phase.noConfusion)
  have hc := list_set_ok (i := slotOfGroup group) h.cll_ok (by omega : v ≤ 7)
  unfold State.setGroup at he
  dsimp only at he
  split at he
  · next hlt =>
    cases he
    exact { h with
      cll_ok := hc
      place := ⟨hpl.1, hlt⟩
      ready_done := fun hx => absurd (hr.symm.trans hx) (by decide) }
  · unfold State.buildCodeLengthCode at he
    split at he
    · next tb htb =>
      cases he
      exact { h with
        cll_ok := hc
        clc_built := slotBuilt_some (by rw [hc.1]; decide) (fun l hl => Nat.le_trans (hc.2 l hl) (by decide)) htb
        lenCnt_le := Nat.zero_le _
        place := ⟨hpl.1, rfl, by
          show 0 < s.nlit + s.ndist
          have := h.nlit_range; omega⟩
        ready_done := fun hx => absurd (hr.symm.trans hx) (by decide) }
    · cases he

/-- Appending code lengths changes LENBUF and LEN_CNT only, and the lengths stay 4-bit values (R193, R22). -/
theorem State.Inv.pushLengths {s : State} (h : s.Inv) {n v : Nat} (hv : v ≤ 15) :
    (s.pushLengths n v).lenBuf.length = 320 ∧ (∀ x ∈ (s.pushLengths n v).lenBuf, x ≤ 15) ∧
      s.pushLengths n v = { s with lenBuf := (s.pushLengths n v).lenBuf, lenCnt := s.lenCnt + n } := by
  suffices H : ∀ (n : Nat) (u : State), u.lenBuf.length = 320 → (∀ x ∈ u.lenBuf, x ≤ 15) →
      (u.pushLengths n v).lenBuf.length = 320 ∧ (∀ x ∈ (u.pushLengths n v).lenBuf, x ≤ 15) ∧
        u.pushLengths n v = { u with lenBuf := (u.pushLengths n v).lenBuf, lenCnt := u.lenCnt + n } from
    H n s h.lenBuf_ok.1 h.lenBuf_ok.2
  intro n
  induction n with
  | zero => exact fun u h1 h2 => ⟨h1, h2, rfl⟩
  | succ n ih =>
    intro u h1 h2
    have hs := list_set_ok (i := u.lenCnt) ⟨h1, h2⟩ hv
    obtain ⟨a1, a2, a3⟩ := ih (u.pushLength v) hs.1 hs.2
    refine ⟨a1, a2, ?_⟩
    show (u.pushLength v).pushLengths n v = _
    rw [a3]
    show ({ u with lenBuf := ((u.pushLength v).pushLengths n v).lenBuf, lenCnt := u.lenCnt + 1 + n } : State) =
      { u with lenBuf := _, lenCnt := u.lenCnt + (n + 1) }
    rw [Nat.add_assoc, Nat.add_comm 1 n]
    rfl

theorem paddedDistanceLengths_ok {d : List Nat} (hl : d.length ≤ 32) (hv : ∀ l ∈ d, l ≤ 15) :
    (paddedDistanceLengths d).length ≤ 320 ∧ ∀ l ∈ paddedDistanceLengths d, l ≤ 15 := by
  unfold paddedDistanceLengths
  split
  · refine ⟨by simp; omega, fun l hm => ?_⟩
    rcases List.mem_or_eq_of_mem_set hm with hm | rfl
    · rcases List.mem_append.mp hm with hm | hm
      · exact hv l hm
      · rw [List.eq_of_mem_replicate hm]; decide
    · decide
  · exact ⟨by omega, hv⟩

theorem State.lenSpan_ok {s : State} (h : s.Inv) (b c : Nat) :
    (s.lenSpan b c).length ≤ 320 ∧ ∀ l ∈ s.lenSpan b c, l ≤ 15 := by
  refine ⟨?_, fun l hl => h.lenBuf_ok.2 l (List.mem_of_mem_drop (List.mem_of_mem_take hl))⟩
  have := h.lenBuf_ok.1
  simp [State.lenSpan]; omega

/-- The block's tables (R194, R195). -/
theorem State.Inv.buildBlockTables {s t : State} (h : s.Inv) (hb : s.bdState = .dynamicHuffmanBlock)
    (hr : s.outReady = false) (he : s.buildBlockTables = .ok t) : t.Inv := by
  unfold State.buildBlockTables at he
  dsimp only at he
  split at he
  · cases he
  split at he
  · next tl htl =>
    have hl := State.lenSpan_ok h 0 s.nlit
    have hll := slotBuilt_some hl.1 hl.2 htl
    unfold State.buildDistanceTable at he
    dsimp only at he
    split at he
    · cases he
      exact { h with
        dynLL_built := hll
        dynD_built := slotBuilt_none
        place := .inr ⟨hb, rfl, rfl⟩
        ready_done := fun hx => absurd (hr.symm.trans hx) (by decide) }
    · split at he
      · next td htd =>
        cases he
        have hd := State.lenSpan_ok h s.nlit s.ndist
        have hp := paddedDistanceLengths_ok (d := s.lenSpan s.nlit s.ndist) (by
          have := h.ndist_range
          simp [State.lenSpan]; omega) hd.2
        exact { h with
          dynLL_built := hll
          dynD_built := slotBuilt_some hp.1 hp.2 htd
          place := .inr ⟨hb, rfl, rfl⟩
          ready_done := fun hx => absurd (hr.symm.trans hx) (by decide) }
      · cases he
  · cases he

/-- After the lengths of a code-length symbol: the next symbol, or the block's tables (R193). -/
theorem State.Inv.afterLengths {s t : State} (h : s.Inv) (hp : s.phase = .codeLength) {n v : Nat} (hv : v ≤ 15)
    (hn : s.lenCnt + n ≤ s.lengthTotal) (he : (s.pushLengths n v).afterLengths = .ok t) : t.Inv := by
  have hpl : s.placeOk := h.place
  simp only [State.placeOk, hp] at hpl
  have hr := h.not_ready (by rw [hp]; decide)
  obtain ⟨h1, h2, h3⟩ := h.pushLengths (n := n) hv
  have htot : s.lengthTotal ≤ 320 := by
    show s.nlit + s.ndist ≤ 320
    have := h.nlit_range; have := h.ndist_range; omega
  generalize hu : (s.pushLengths n v).lenBuf = u at h1 h2 h3
  rw [h3] at he
  unfold State.afterLengths at he
  split at he
  · next hlt =>
    cases he
    exact { h with
      lenBuf_ok := ⟨h1, h2⟩
      lenCnt_le := by show s.lenCnt + n ≤ 320; omega
      place := ⟨hpl.1, hpl.2.1, hlt⟩
      ready_done := fun hx => absurd (hr.symm.trans hx) (by decide) }
  · have hph : (State.goto { s with lenBuf := u, lenCnt := s.lenCnt + n } .preHlit).Inv := { h with
      lenBuf_ok := ⟨h1, h2⟩
      lenCnt_le := by show s.lenCnt + n ≤ 320; omega
      place := hpl.1
      ready_done := fun hx => absurd (hr.symm.trans hx) (by decide) }
    refine State.Inv.buildBlockTables hph hpl.1 hr (Eq.trans ?_ he)
    unfold State.buildBlockTables State.buildDistanceTable
    rfl

/-- What the repeat of a code-length symbol answers (R193). -/
theorem State.repeatOf_ok {s t : State} {sym rep val : Nat} (he : s.repeatOf sym = .ok (rep, val, t)) :
    (∃ p, t = s.withPos p ∧ s.pos ≤ p ∧ p ≤ 8 * s.inLen) ∧ 1 ≤ rep ∧
      (val = 0 ∨ val = s.lenBuf.getD (s.lenCnt - 1) 0) := by
  have key : ∀ {b n v : Nat} {u : State}, 1 ≤ b → s.addExtra b n = .ok (v, u) →
      (∃ p, u = s.withPos p ∧ s.pos ≤ p ∧ p ≤ 8 * s.inLen) ∧ 1 ≤ v := by
    intro b n v u hb hx
    unfold State.addExtra at hx
    split at hx
    · next hru =>
      cases hx
      obtain ⟨_, h⟩ | ⟨m, _, _, ⟨_, h⟩ | ⟨hle, h⟩⟩ := State.readUint_cases hru <;> cases h
      exact ⟨⟨_, rfl, by omega, hle⟩, by omega⟩
    · cases hx
  unfold State.repeatOf at he
  split at he
  · split at he
    · cases he
    split at he
    · next hx => cases he; exact ⟨(key (by decide) hx).1, (key (by decide) hx).2, .inr rfl⟩
    · cases he
  split at he
  · split at he
    · next hx => cases he; exact ⟨(key (by decide) hx).1, (key (by decide) hx).2, .inl rfl⟩
    · cases he
  split at he
  · split at he
    · next hx => cases he; exact ⟨(key (by decide) hx).1, (key (by decide) hx).2, .inl rfl⟩
    · cases he
  · cases he

/-- A code-length symbol (R193). -/
theorem State.Inv.codeLengthSymbol {s t : State} (h : s.Inv) (hp : s.phase = .codeLength) {sym : Nat}
    (he : s.codeLengthSymbol sym = .ok t) : t.Inv := by
  have hpl : s.placeOk := h.place
  simp only [State.placeOk, hp] at hpl
  unfold State.codeLengthSymbol at he
  split at he
  · next hs => exact h.afterLengths hp (n := 1) hs (by omega) he
  · split at he
    · next rep val u hu =>
      obtain ⟨⟨p, rfl, _, hple⟩, _, hval⟩ := State.repeatOf_ok hu
      split at he
      · cases he
      · next hov =>
        refine (h.withPos hple).afterLengths hp (v := val) ?_ (by omega) he
        rcases hval with rfl | rfl
        · decide
        · rw [List.getD_eq_getElem?_getD]
          cases hx : s.lenBuf[s.lenCnt - 1]? with
          | none => exact Nat.zero_le _
          | some x => exact h.lenBuf_ok.2 x (List.mem_of_getElem? hx)
    · cases he

/-- What RunLength answers (R69, R160). -/
theorem State.runLength_ok {s t : State} {sym run : Nat} (he : s.runLength sym = .ok (run, t)) :
    ∃ p, t = s.withPos p ∧ s.pos ≤ p ∧ (s.pos ≤ 8 * s.inLen → p ≤ 8 * s.inLen) := by
  unfold State.runLength at he
  split at he
  · simp only [Except.ok.injEq, Prod.mk.injEq] at he
    obtain ⟨-, rfl⟩ := he
    exact ⟨s.pos, rfl, Nat.le_refl _, id⟩
  split at he
  · unfold State.addExtra at he
    split at he
    · next hru =>
      cases he
      obtain ⟨_, h⟩ | ⟨m, _, _, ⟨_, h⟩ | ⟨hle, h⟩⟩ := State.readUint_cases hru <;> cases h
      exact ⟨_, rfl, by omega, fun _ => hle⟩
    · cases he
  split at he
  · simp only [Except.ok.injEq, Prod.mk.injEq] at he
    obtain ⟨-, rfl⟩ := he
    exact ⟨s.pos, rfl, Nat.le_refl _, id⟩
  · cases he

/-- What Distance answers (R70, R160). -/
theorem State.distanceOf_ok {s t : State} {sym d : Nat} (he : s.distanceOf sym = .ok (d, t)) :
    ∃ p, t = s.withPos p ∧ s.pos ≤ p ∧ (s.pos ≤ 8 * s.inLen → p ≤ 8 * s.inLen) := by
  unfold State.distanceOf at he
  split at he
  · cases he; exact ⟨s.pos, rfl, Nat.le_refl _, id⟩
  split at he
  · unfold State.addExtra at he
    split at he
    · next hru =>
      cases he
      obtain ⟨_, h⟩ | ⟨m, _, _, ⟨_, h⟩ | ⟨hle, h⟩⟩ := State.readUint_cases hru <;> cases h
      exact ⟨_, rfl, by omega, fun _ => hle⟩
    · cases he
  · cases he

/-- A literal/length symbol (R155 to R159). -/
theorem State.Inv.literalLengthSymbol {s t : State} (h : s.Inv) (hp : s.phase = .symbol) {sym : Nat}
    (he : s.literalLengthSymbol sym = .ok t) : t.Inv := by
  have hi : s.phase ≠ .idle := by rw [hp]; decide
  have hpl : s.placeOk := h.place
  simp only [State.placeOk, hp] at hpl
  unfold State.literalLengthSymbol at he
  split at he
  · cases he; exact h.endBlock hi
  split at he
  · cases he; exact (h.emit _).goto (h.not_ready hi) hpl
  split at he
  · unfold State.lengthSymbol at he
    split at he
    · cases he
    · next run u hu =>
      obtain ⟨p, rfl, _, hple⟩ := State.runLength_ok hu
      split at he
      · cases he
      split at he
      · next hd =>
        cases he
        exact (h.withPos (hple h.pos_le)).goto (h.not_ready hi) ⟨hpl, hd, by omega, by omega⟩
      · cases he
  · cases he

/-- A distance symbol and the copy (R158). -/
theorem State.Inv.distanceSymbol {s t : State} (h : s.Inv) {run sym : Nat} (hp : s.phase = .distance run)
    (he : s.distanceSymbol run sym = .ok t) : t.Inv := by
  have hi : s.phase ≠ .idle := by rw [hp]; exact Phase.noConfusion
  have hpl : s.placeOk := h.place
  simp only [State.placeOk, hp] at hpl
  unfold State.distanceSymbol at he
  split at he
  · cases he
  · next d u hu =>
    obtain ⟨p, rfl, _, hple⟩ := State.distanceOf_ok hu
    split at he
    · cases he
    split at he
    · next w hw =>
      cases he
      obtain ⟨_, hx⟩ | ⟨_, _, _, hx⟩ | ⟨_, _, _, hx⟩ := State.copyBack_cases hw <;> cases hx
      refine ((h.withPos (hple h.pos_le)).copyLoop _ _).goto ?_ ?_
      · rw [copyLoop_frame]; exact h.not_ready hi
      · rw [copyLoop_frame]; exact hpl.1
    · cases he

end Sys2Proof.Machine
end

