-- ==== Sys2Proof/Laws/Onward.lean ====
section
/-! SUPPORT. What no operation of the block decoder undoes: IN, the fixed tables, ERR and the port stay, OUT only grows
at its end, POS only moves forward and not beyond the end of IN. Said once as the relation `Onward` and proved for each
operation, then for an element of a run. -/

namespace Sys2Proof.Machine

/-- `t` comes after `s` in one run (R10, R14, R19, R11, R96). -/
structure Onward (s t : State) : Prop where
  inp : t.inp = s.inp
  fixedLL : t.tblFixedLL = s.tblFixedLL
  fixedD : t.tblFixedD = s.tblFixedD
  err : t.err = s.err
  port : t.port = s.port
  out : s.out <+: t.out
  pos : s.pos ≤ t.pos
  bound : s.pos ≤ 8 * s.inp.length → t.pos ≤ 8 * s.inp.length
  failed : s.bdState ≠ .failed → t.bdState ≠ .failed

theorem Onward.refl (s : State) : Onward s s := ⟨rfl, rfl, rfl, rfl, rfl, List.prefix_refl _, Nat.le_refl _, id, id⟩

theorem Onward.trans {s t u : State} (h : Onward s t) (k : Onward t u) : Onward s u where
  inp := k.inp.trans h.inp
  fixedLL := k.fixedLL.trans h.fixedLL
  fixedD := k.fixedD.trans h.fixedD
  err := k.err.trans h.err
  port := k.port.trans h.port
  out := h.out.trans k.out
  pos := Nat.le_trans h.pos k.pos
  bound := fun hb => by have := k.bound (by rw [h.inp]; exact h.bound hb); rwa [h.inp] at this
  failed := fun hf => k.failed (h.failed hf)

theorem Onward.withPos {s : State} {p : Nat} (h : s.pos ≤ p) (hb : s.pos ≤ 8 * s.inp.length → p ≤ 8 * s.inp.length) :
    Onward s (s.withPos p) := ⟨rfl, rfl, rfl, rfl, rfl, List.prefix_refl _, h, hb, id⟩

theorem Onward.goto (s : State) (p : Phase) : Onward s (s.goto p) :=
  ⟨rfl, rfl, rfl, rfl, rfl, List.prefix_refl _, Nat.le_refl _, id, id⟩

theorem Onward.enter (s : State) {b : BdState} (hb : b ≠ .failed) (p : Phase) : Onward s (s.enter b p) :=
  ⟨rfl, rfl, rfl, rfl, rfl, List.prefix_refl _, Nat.le_refl _, id, fun _ => hb⟩

theorem Onward.emit (s : State) (b : Byte) : Onward s (s.emit b) :=
  ⟨rfl, rfl, rfl, rfl, rfl, List.prefix_append _ _, Nat.le_refl _, id, id⟩

theorem Onward.copyLoop (s : State) (r n : Nat) : Onward s (copyLoop s r n) := by
  induction n generalizing s r with
  | zero => exact .refl s
  | succ n ih => exact (Onward.emit s _).trans (ih _ _)

theorem Onward.endRun (s : State) : Onward s s.endRun where
  inp := rfl
  fixedLL := rfl
  fixedD := rfl
  err := rfl
  port := rfl
  out := List.prefix_refl _
  pos := by show s.pos ≤ (s.pos + 7) / 8 * 8; omega
  bound := fun h => by show (s.pos + 7) / 8 * 8 ≤ _; omega
  failed := fun _ => by show BdState.done ≠ .failed; decide

theorem Onward.endBlock (s : State) : Onward s s.endBlock := by
  unfold State.endBlock
  split
  · exact .endRun s
  · exact .enter s (by decide) _

theorem Onward.pushLengths (s : State) (n v : Nat) : Onward s (s.pushLengths n v) := by
  induction n generalizing s with
  | zero => exact .refl s
  | succ n ih =>
    have first : Onward s (s.pushLength v) :=
      ⟨rfl, rfl, rfl, rfl, rfl, List.prefix_refl _, Nat.le_refl _, id, id⟩
    exact first.trans (ih (s.pushLength v))

theorem Onward.readUint {s t : State} {n : Int} {v : Nat} (h : s.readUint n = .ok (v, t)) :
    Onward s t ∧ t.phase = s.phase ∧ t.pos = s.pos + n.toNat := by
  obtain ⟨_, h⟩ | ⟨m, rfl, _, ⟨_, h⟩ | ⟨hle, h⟩⟩ := State.readUint_cases h <;> cases h
  exact ⟨.withPos (by omega) (fun _ => hle), rfl, rfl⟩

theorem Onward.decodeSymbol {s t : State} {tbl : Table} {key sym : Nat} (h : s.decodeSymbol tbl = .ok (key, sym, t)) :
    Onward s t ∧ t.phase = s.phase ∧ s.pos < t.pos := by
  obtain ⟨p, rfl, h1, h2, _⟩ := State.decodeSymbol_ok h
  exact ⟨.withPos (Nat.le_of_lt h1) (fun _ => by change p ≤ _ + (8 * s.inp.length - _) at h2; omega), rfl, h1⟩

theorem Onward.addExtra {s t : State} {b e v : Nat} (h : s.addExtra b e = .ok (v, t)) : Onward s t := by
  unfold State.addExtra at h
  split at h
  · next hr => cases h; exact (Onward.readUint hr).1
  · cases h

theorem Onward.blockHeader {s t : State} {f : Bool} {ty : Nat} (h : s.blockHeader f ty = .ok t) : Onward s t := by
  have key : ∀ (u : State) (b : BdState) (p : Phase), b ≠ .failed → u.inp = s.inp → u.tblFixedLL = s.tblFixedLL →
      u.tblFixedD = s.tblFixedD → u.err = s.err → u.port = s.port → u.out = s.out → u.pos = s.pos →
      Onward s (u.enter b p) := fun u b p hb h1 h2 h3 h4 h5 h6 h7 =>
    ⟨h1, h2, h3, h4, h5, by show s.out <+: u.out; rw [h6], by show s.pos ≤ u.pos; rw [h7],
      fun hb => by show u.pos ≤ _; rwa [h7], fun _ => hb⟩
  unfold State.blockHeader at h
  split at h <;> cases h <;> exact key _ _ _ (by decide) rfl rfl rfl rfl rfl rfl rfl

theorem Onward.buildBlockTables {s t : State} (h : s.buildBlockTables = .ok t) : Onward s t := by
  unfold State.buildBlockTables at h
  dsimp only at h
  split at h
  · cases h
  split at h
  · unfold State.buildDistanceTable at h
    dsimp only at h
    split at h
    · cases h; exact ⟨rfl, rfl, rfl, rfl, rfl, List.prefix_refl _, Nat.le_refl _, id, id⟩
    split at h
    · cases h; exact ⟨rfl, rfl, rfl, rfl, rfl, List.prefix_refl _, Nat.le_refl _, id, id⟩
    · cases h
  · cases h

theorem Onward.setGroup {s t : State} {g v : Nat} (h : s.setGroup g v = .ok t) : Onward s t := by
  unfold State.setGroup at h
  dsimp only at h
  split at h
  · cases h; exact ⟨rfl, rfl, rfl, rfl, rfl, List.prefix_refl _, Nat.le_refl _, id, id⟩
  · unfold State.buildCodeLengthCode at h
    split at h
    · cases h; exact ⟨rfl, rfl, rfl, rfl, rfl, List.prefix_refl _, Nat.le_refl _, id, id⟩
    · cases h

theorem Onward.afterLengths {s t : State} (h : s.afterLengths = .ok t) : Onward s t := by
  unfold State.afterLengths at h
  split at h
  · cases h; exact .goto s _
  · exact .buildBlockTables h

theorem Onward.codeLengthSymbol {s t : State} {sym : Nat} (h : s.codeLengthSymbol sym = .ok t) : Onward s t := by
  unfold State.codeLengthSymbol at h
  split at h
  · exact (Onward.pushLengths s 1 sym).trans (.afterLengths h)
  · split at h
    · next hr =>
      obtain ⟨⟨p, rfl, h1, h2⟩, _⟩ := State.repeatOf_ok hr
      split at h
      · cases h
      · exact (Onward.withPos h1 (fun _ => h2)).trans ((Onward.pushLengths _ _ _).trans (.afterLengths h))
    · cases h

theorem Onward.storedComplement {s t : State} {len w : Nat} (h : s.storedComplement len w = .ok t) : Onward s t := by
  unfold State.storedComplement at h
  split at h
  · cases h
    split
    · exact .endBlock s
    · exact .goto s _
  · cases h

theorem Onward.storedByte (s : State) (left b : Nat) : Onward s (s.storedByte left b) := by
  unfold State.storedByte
  dsimp only
  split
  · exact (Onward.emit s _).trans (.endBlock _)
  · exact (Onward.emit s _).trans (.goto _ _)

theorem Onward.literalLengthSymbol {s t : State} {sym : Nat} (h : s.literalLengthSymbol sym = .ok t) : Onward s t := by
  unfold State.literalLengthSymbol at h
  split at h
  · cases h; exact .endBlock s
  split at h
  · cases h; exact (Onward.emit s _).trans (.goto _ _)
  split at h
  · unfold State.lengthSymbol at h
    split at h
    · cases h
    · next hu =>
      obtain ⟨p, rfl, h1, h2⟩ := State.runLength_ok hu
      split at h
      · cases h
      split at h
      · cases h; exact (Onward.withPos h1 h2).trans (.goto _ _)
      · cases h
  · cases h

theorem Onward.distanceSymbol {s t : State} {run sym : Nat} (h : s.distanceSymbol run sym = .ok t) : Onward s t := by
  unfold State.distanceSymbol at h
  split at h
  · cases h
  · next hu =>
    obtain ⟨p, rfl, h1, h2⟩ := State.distanceOf_ok hu
    split at h
    · cases h
    split at h
    · next hw =>
      cases h
      obtain ⟨_, hx⟩ | ⟨_, _, _, hx⟩ | ⟨_, _, _, hx⟩ := State.copyBack_cases hw <;> cases hx
      exact (Onward.withPos h1 h2).trans ((Onward.copyLoop _ _ _).trans (.goto _ _))
    · cases h

/-- An element that is not padding moves POS forward; padding does not move it back (R161). -/
theorem State.nextElement_onward {s t : State} (h : s.nextElement = .ok t) :
    Onward s t ∧ (s.phase ≠ .idle → s.phase ≠ .storedPad → s.pos < t.pos) := by
  have field : ∀ {n : Int} {v : Nat} {u : State}, s.readUint n = .ok (v, u) → 0 < n.toNat → Onward u t →
      Onward s t ∧ (s.phase ≠ .idle → s.phase ≠ .storedPad → s.pos < t.pos) := fun hr hn hu =>
    have ⟨h1, _, h3⟩ := Onward.readUint hr
    ⟨h1.trans hu, fun _ _ => by have := hu.pos; omega⟩
  have symb : ∀ {tbl : Table} {key sym : Nat} {u : State}, s.decodeSymbol tbl = .ok (key, sym, u) → Onward u t →
      Onward s t ∧ (s.phase ≠ .idle → s.phase ≠ .storedPad → s.pos < t.pos) := fun hr hu =>
    have ⟨h1, _, h3⟩ := Onward.decodeSymbol hr
    ⟨h1.trans hu, fun _ _ => by have := hu.pos; omega⟩
  have same : ∀ u : State, Onward u u := Onward.refl
  unfold State.nextElement at h
  split at h
  · next hp => cases h; exact ⟨.refl s, fun hi => absurd hp hi⟩
  · split at h
    · next hr => exact field hr (by decide) (.blockHeader h)
    · cases h
  · next hp =>
    cases h
    exact ⟨(Onward.withPos (s := s) (by omega) (fun _ => by omega)).trans (.goto _ _), fun _ hi => absurd hp hi⟩
  · split at h
    · next hr => cases h; exact field hr (by decide) (.goto _ _)
    · cases h
  · split at h
    · next hr => exact field hr (by decide) (.storedComplement h)
    · cases h
  · split at h
    · next hr => cases h; exact field hr (by decide) (.storedByte _ _ _)
    · cases h
  · split at h
    · next hr =>
      cases h
      exact field hr (by decide) ⟨rfl, rfl, rfl, rfl, rfl, List.prefix_refl _, Nat.le_refl _, id, id⟩
    · cases h
  · split at h
    · next hr =>
      cases h
      exact field hr (by decide) ⟨rfl, rfl, rfl, rfl, rfl, List.prefix_refl _, Nat.le_refl _, id, id⟩
    · cases h
  · split at h
    · next hr =>
      cases h
      exact field hr (by decide) ⟨rfl, rfl, rfl, rfl, rfl, List.prefix_refl _, Nat.le_refl _, id, id⟩
    · cases h
  · split at h
    · next hr => exact field hr (by decide) (.setGroup h)
    · cases h
  · split at h
    · next hr => exact symb hr (.codeLengthSymbol h)
    · cases h
  · split at h
    · next hr => exact symb hr (.literalLengthSymbol h)
    · cases h
  · split at h
    · next hr => exact symb hr (.distanceSymbol h)
    · cases h

/-! ### What `exec` can answer for a stream element -/

/-- The outcome of a stream element that runs at its place: inside a run, onward or by fault entry. -/
def ElementOutcome (s t : State) : Prop := s.phase ≠ .idle ∧ (Onward s t ∨ ∃ k, t = s.takeFault k)

theorem literalLengthElement_cases {s t : State} {sym : Nat} (h : literalLengthElement sym s = .next t) :
    ElementOutcome s t := by
  obtain ⟨h1, h2⟩ := inPlace_cases h
  refine ⟨by rw [beq_iff_eq.mp h1]; decide, ?_⟩
  obtain h2 | ⟨k, _, h2⟩ := h2
  · exact .inl (.literalLengthSymbol h2)
  · exact .inr ⟨k, h2⟩

theorem distanceElement_cases {s t : State} {sym : Nat} (h : distanceElement sym s = .next t) :
    ElementOutcome s t := by
  unfold distanceElement at h
  split at h
  · next hp =>
    refine ⟨by rw [hp]; exact Phase.noConfusion, ?_⟩
    obtain h2 | ⟨k, _, h2⟩ := finish_cases h
    · exact .inl (.distanceSymbol h2)
    · exact .inr ⟨k, h2⟩
  · cases h

theorem codeLengthElement_cases {s t : State} {sym : Nat} (h : codeLengthElement sym s = .next t) :
    ElementOutcome s t := by
  obtain ⟨h1, h2⟩ := inPlace_cases h
  refine ⟨by rw [beq_iff_eq.mp h1]; decide, ?_⟩
  obtain h2 | ⟨k, _, h2⟩ := h2
  · exact .inl (.codeLengthSymbol h2)
  · exact .inr ⟨k, h2⟩

theorem preambleGroup_cases {s t : State} {g v : Nat} (h : preambleGroup g v s = .next t) :
    ElementOutcome s t := by
  obtain ⟨h1, h2⟩ := inPlace_cases h
  refine ⟨by rw [beq_iff_eq.mp h1]; exact Phase.noConfusion, ?_⟩
  obtain h2 | ⟨k, _, h2⟩ := h2
  · exact .inl (.setGroup h2)
  · exact .inr ⟨k, h2⟩

theorem header_cases {s t : State} {f : Bool} {ty : Nat}
    (h : inPlace (s.phase == .header) s (s.blockHeader f ty) = .next t) :
    ElementOutcome s t := by
  obtain ⟨h1, h2⟩ := inPlace_cases h
  refine ⟨by rw [beq_iff_eq.mp h1]; exact Phase.noConfusion, ?_⟩
  obtain h2 | ⟨k, _, h2⟩ := h2
  · exact .inl (.blockHeader h2)
  · exact .inr ⟨k, h2⟩

theorem place_cases {s t u : State} {p : Phase} (hp : p ≠ .idle)
    (h : inPlace (s.phase == p) s (.ok u) = .next t) (ho : Onward s u) : ElementOutcome s t := by
  obtain ⟨h1, h2⟩ := inPlace_cases h
  refine ⟨by rw [beq_iff_eq.mp h1]; exact hp, ?_⟩
  obtain h2 | ⟨k, _, h2⟩ := h2
  · cases h2; exact .inl ho
  · exact .inr ⟨k, h2⟩

theorem fixedElement_cases {s t : State} {sym : Nat} (h : fixedElement sym s = .next t) :
    ElementOutcome s t := by
  unfold fixedElement at h
  split at h
  · exact literalLengthElement_cases h
  · cases h

theorem fixedDistanceElement_cases {s t : State} {sym : Nat} (h : fixedDistanceElement sym s = .next t) :
    ElementOutcome s t := by
  unfold fixedDistanceElement at h
  split at h
  · exact distanceElement_cases h
  · cases h

/-- Every stream element: it runs inside a run only, and leads onward or to fault entry. -/
theorem exec_element_cases {i : Instr} {f : Format} {w : Nat} (hi : encode i = .element f w) {s t : State}
    (h : exec i s = .next t) : ElementOutcome s t := by
  have plain : ∀ {u : State}, u.inp = s.inp → u.tblFixedLL = s.tblFixedLL → u.tblFixedD = s.tblFixedD →
      u.err = s.err → u.port = s.port → u.out = s.out → u.pos = s.pos → u.bdState = s.bdState → Onward s u :=
    fun h1 h2 h3 h4 h5 h6 h7 h8 => ⟨h1, h2, h3, h4, h5, by rw [h6], by rw [h7], fun hb => by rwa [h7],
      fun hf => by rwa [h8]⟩
  cases f with
  | hdr => obtain ⟨f, ty, _, _, he⟩ := exec_of_hdr hi; rw [he] at h; exact header_cases h
  | storedPad =>
    rw [exec_of_storedPad hi] at h
    exact place_cases (by decide) h ((Onward.withPos (s := s) (by omega) (fun _ => by omega)).trans (.goto _ _))
  | storedLen => rw [exec_of_storedLen hi] at h; exact place_cases (by decide) h (.goto _ _)
  | storedNlen =>
    rw [exec_of_storedNlen hi] at h
    unfold execStoredNlen at h
    split at h
    · next hp =>
      refine ⟨by rw [hp]; exact Phase.noConfusion, ?_⟩
      obtain h2 | ⟨k, _, h2⟩ := finish_cases h
      · exact .inl (.storedComplement h2)
      · exact .inr ⟨k, h2⟩
    · cases h
  | storedData =>
    rw [exec_of_storedData hi] at h
    unfold execStoredData at h
    split at h
    · next hp => cases h; exact ⟨by rw [hp]; exact Phase.noConfusion, .inl (.storedByte _ _ _)⟩
    · cases h
  | llSymbol => rw [exec_of_llSymbol hi] at h; exact literalLengthElement_cases h
  | dSymbol => rw [exec_of_dSymbol hi] at h; exact distanceElement_cases h
  | preHlit =>
    rw [exec_of_preHlit hi] at h; exact place_cases (by decide) h (plain rfl rfl rfl rfl rfl rfl rfl rfl)
  | preHdist =>
    rw [exec_of_preHdist hi] at h; exact place_cases (by decide) h (plain rfl rfl rfl rfl rfl rfl rfl rfl)
  | preHclen =>
    rw [exec_of_preHclen hi] at h; exact place_cases (by decide) h (plain rfl rfl rfl rfl rfl rfl rfl rfl)
  | preCll group => rw [exec_of_preCll hi] at h; exact preambleGroup_cases h
  | clSymbol => rw [exec_of_clSymbol hi] at h; exact codeLengthElement_cases h
  | fixedLL =>
    obtain ⟨sym, hk⟩ := fixedLL_key_some hi
    rw [exec_of_fixedLL hi hk] at h; exact fixedElement_cases h
  | fixedD =>
    obtain ⟨sym, hk⟩ := fixedD_key_some hi
    rw [exec_of_fixedD hi hk] at h; exact fixedDistanceElement_cases h

/-! ### A run -/

/-- A run leads onward, or onward and then to fault entry. -/
theorem State.runElements_onward (n : Nat) (s : State) :
    Onward s (s.runElements n) ∨ ∃ u k, Onward s u ∧ s.runElements n = u.takeFault k := by
  induction n generalizing s with
  | zero => exact .inl (.refl s)
  | succ n ih =>
    unfold State.runElements
    split
    · exact .inl (.refl s)
    · unfold State.elementStep
      split
      · next t he =>
        have ho := (State.nextElement_onward he).1
        obtain h | ⟨u, k, h, e⟩ := ih t
        · exact .inl (ho.trans h)
        · exact .inr ⟨u, k, ho.trans h, e⟩
      · next k he =>
        refine .inr ⟨s, k, .refl s, ?_⟩
        cases n <;> rfl

/-! ### The invariant of a run -/

/-- An element of a run keeps the invariant. -/
theorem State.Inv.nextElement {s t : State} (h : s.Inv) (he : s.nextElement = .ok t) : t.Inv := by
  have field : ∀ {n : Int} {v : Nat} {u : State}, s.readUint n = .ok (v, u) →
      u.Inv ∧ u.phase = s.phase ∧ v < 2 ^ n.toNat := fun hr => by
    obtain ⟨_, h'⟩ | ⟨m, rfl, _, ⟨_, h'⟩ | ⟨hle, h'⟩⟩ := State.readUint_cases hr <;> cases h'
    exact ⟨h.withPos hle, rfl, bitsAt_lt _ _ _⟩
  have symb : ∀ {tbl : Table} {key sym : Nat} {u : State}, s.decodeSymbol tbl = .ok (key, sym, u) →
      u.Inv ∧ u.phase = s.phase := fun hr => by
    obtain ⟨p, rfl, h1, h2, _⟩ := State.decodeSymbol_ok hr
    have := h.pos_le
    exact ⟨h.withPos (by change p ≤ _ + (8 * s.inp.length - _) at h2; omega), rfl⟩
  unfold State.nextElement at he
  split at he
  · cases he; exact h
  · next hp =>
    split at he
    · next hr => obtain ⟨a, b, c⟩ := field hr; exact a.blockHeader (b.trans hp) he
    · cases he
  · next hp => cases he; exact h.skipPadding hp
  · next hp =>
    split at he
    · next hr => cases he; obtain ⟨a, b, c⟩ := field hr; exact a.storedLength (b.trans hp) c
    · cases he
  · next hp =>
    split at he
    · next hr => obtain ⟨a, b, c⟩ := field hr; exact a.storedComplement (b.trans hp) he
    · cases he
  · next hp =>
    split at he
    · next hr => cases he; obtain ⟨a, b, c⟩ := field hr; exact a.storedByte (b.trans hp) _
    · cases he
  · next hp =>
    split at he
    · next hr => cases he; obtain ⟨a, b, c⟩ := field hr; exact a.setHlit (b.trans hp) c
    · cases he
  · next hp =>
    split at he
    · next hr => cases he; obtain ⟨a, b, c⟩ := field hr; exact a.setHdist (b.trans hp) c
    · cases he
  · next hp =>
    split at he
    · next hr => cases he; obtain ⟨a, b, c⟩ := field hr; exact a.setHclen (b.trans hp) c
    · cases he
  · next hp =>
    split at he
    · next hr => obtain ⟨a, b, c⟩ := field hr; exact a.setGroup (b.trans hp) c he
    · cases he
  · next hp =>
    split at he
    · next hr => obtain ⟨a, b⟩ := symb hr; exact a.codeLengthSymbol (b.trans hp) he
    · cases he
  · next hp =>
    split at he
    · next hr => obtain ⟨a, b⟩ := symb hr; exact a.literalLengthSymbol (b.trans hp) he
    · cases he
  · next hp =>
    split at he
    · next hr => obtain ⟨a, b⟩ := symb hr; exact a.distanceSymbol (b.trans hp) he
    · cases he

theorem State.Inv.elementStep {s : State} (h : s.Inv) : s.elementStep.Inv := by
  unfold State.elementStep
  split
  · next he => exact h.nextElement he
  · exact h.takeFault _

theorem State.Inv.runElements {s : State} (h : s.Inv) (fuel : Nat) : (s.runElements fuel).Inv := by
  induction fuel generalizing s with
  | zero => exact h
  | succ fuel ih =>
    unfold State.runElements
    split
    · exact h
    · exact ih h.elementStep

/-- PerCallInit establishes the invariant of a run (R261). -/
theorem State.Inv.perCallInit {s : State} (h : s.Inv) (hb : s.bdState ≠ .failed) : s.perCallInit.Inv :=
  { h with
    pos_le := Nat.zero_le _
    win_wf := rfl
    cur_lt := by show 0 < 32768; decide
    cnt_le := Nat.zero_le _
    backed := fun _ d h1 h2 => by change d ≤ 0 at h2; omega
    type_lt := by show 0 < 4; decide
    err_failed :=
      ⟨fun hx => absurd hx (by show ¬ s.err.isSome = true; rw [h.err_none hb]; decide), fun hx => by cases hx⟩
    place := rfl
    ready_done := fun hx => by cases hx }

end Sys2Proof.Machine
end

