-- ==== Sys2Proof/Laws/PerInstr.lean ====
section
/-! SUPPORT. Facts said of every instruction as syntax, one lemma per constructor. Family `WordFits`: the number that
encodes a well-formed stream element fits the width of its format (spec/30_encoding.md R64, R66, R69 to R74), so an
encoder may lay it out in that many bits. -/

namespace Sys2Proof.Laws

/-- The number of bits in which a number of a format fits: a field's width, that of the largest symbol, or that of the
longest codeword's key. -/
def formatWidth (f : Format) : Nat :=
  match f with
  | .hdr => 3
  | .storedPad => 0
  | .storedLen => 16
  | .storedNlen => 16
  | .storedData => 8
  | .llSymbol => 9
  | .dSymbol => 5
  | .preHlit => 5
  | .preHdist => 5
  | .preHclen => 4
  | .preCll _ => 3
  | .clSymbol => 5
  | .fixedLL => 10
  | .fixedD => 6

/-- An encoding within its width: operation codes have their own type, a stream element's number is below 2^width. -/
def encodedFits (e : Encoded) : Bool :=
  match e with
  | .command _ => true
  | .element f w => decide (w < 2 ^ formatWidth f)

/-- Family `WordFits`. -/
def WordFits.Statement (i : Instr) : Prop := i.wf = true → encodedFits (encode i) = true

theorem WordFits.reset : WordFits.Statement .reset := fun _ => rfl
theorem WordFits.brPos : WordFits.Statement .brPos := fun _ => rfl
theorem WordFits.brTry : WordFits.Statement .brTry := fun _ => rfl
theorem WordFits.brRdu (n : Int) : WordFits.Statement (.brRdu n) := fun _ => rfl
theorem WordFits.hcBld (slot : Int) (base : Int) (count : Int) : WordFits.Statement (.hcBld slot base count) :=
  fun _ => rfl
theorem WordFits.hcDec (slot : Int) : WordFits.Statement (.hcDec slot) := fun _ => rfl
theorem WordFits.swApp (byte : Int) : WordFits.Statement (.swApp byte) := fun _ => rfl
theorem WordFits.swCpy (distance : Int) (length : Int) : WordFits.Statement (.swCpy distance length) := fun _ => rfl
theorem WordFits.bdRun : WordFits.Statement .bdRun := fun _ => rfl
theorem WordFits.lbSet (index : Int) (value : Int) : WordFits.Statement (.lbSet index value) := fun _ => rfl
theorem WordFits.csrRd (number : Int) : WordFits.Statement (.csrRd number) := fun _ => rfl
theorem WordFits.reserved11 : WordFits.Statement .reserved11 := fun _ => rfl
theorem WordFits.reserved12 : WordFits.Statement .reserved12 := fun _ => rfl
theorem WordFits.reserved13 : WordFits.Statement .reserved13 := fun _ => rfl
theorem WordFits.reserved14 : WordFits.Statement .reserved14 := fun _ => rfl
theorem WordFits.reserved15 : WordFits.Statement .reserved15 := fun _ => rfl
theorem WordFits.hdrStored (final : Bool) : WordFits.Statement (.hdrStored final) :=
  fun _ => by cases final <;> decide
theorem WordFits.hdrFixed (final : Bool) : WordFits.Statement (.hdrFixed final) := fun _ => by cases final <;> decide
theorem WordFits.hdrDynamic (final : Bool) : WordFits.Statement (.hdrDynamic final) :=
  fun _ => by cases final <;> decide
theorem WordFits.hdrReserved (final : Bool) : WordFits.Statement (.hdrReserved final) :=
  fun _ => by cases final <;> decide
theorem WordFits.storedPad : WordFits.Statement .storedPad := fun _ => by decide
theorem WordFits.storedLen (len : Nat) : WordFits.Statement (.storedLen len) := fun h => h
theorem WordFits.storedNlen (nlen : Nat) : WordFits.Statement (.storedNlen nlen) := fun h => h
theorem WordFits.storedData (byte : Nat) : WordFits.Statement (.storedData byte) := fun h => h
theorem WordFits.lit (byte : Nat) : WordFits.Statement (.lit byte) :=
  fun h => decide_eq_true (Nat.lt_trans (of_decide_eq_true h) (by decide))
theorem WordFits.eob : WordFits.Statement .eob := fun _ => by decide
theorem WordFits.lsym257 : WordFits.Statement .lsym257 := fun _ => by decide
theorem WordFits.lsym258 : WordFits.Statement .lsym258 := fun _ => by decide
theorem WordFits.lsym259 : WordFits.Statement .lsym259 := fun _ => by decide
theorem WordFits.lsym260 : WordFits.Statement .lsym260 := fun _ => by decide
theorem WordFits.lsym261 : WordFits.Statement .lsym261 := fun _ => by decide
theorem WordFits.lsym262 : WordFits.Statement .lsym262 := fun _ => by decide
theorem WordFits.lsym263 : WordFits.Statement .lsym263 := fun _ => by decide
theorem WordFits.lsym264 : WordFits.Statement .lsym264 := fun _ => by decide
theorem WordFits.lsym265 : WordFits.Statement .lsym265 := fun _ => by decide
theorem WordFits.lsym266 : WordFits.Statement .lsym266 := fun _ => by decide
theorem WordFits.lsym267 : WordFits.Statement .lsym267 := fun _ => by decide
theorem WordFits.lsym268 : WordFits.Statement .lsym268 := fun _ => by decide
theorem WordFits.lsym269 : WordFits.Statement .lsym269 := fun _ => by decide
theorem WordFits.lsym270 : WordFits.Statement .lsym270 := fun _ => by decide
theorem WordFits.lsym271 : WordFits.Statement .lsym271 := fun _ => by decide
theorem WordFits.lsym272 : WordFits.Statement .lsym272 := fun _ => by decide
theorem WordFits.lsym273 : WordFits.Statement .lsym273 := fun _ => by decide
theorem WordFits.lsym274 : WordFits.Statement .lsym274 := fun _ => by decide
theorem WordFits.lsym275 : WordFits.Statement .lsym275 := fun _ => by decide
theorem WordFits.lsym276 : WordFits.Statement .lsym276 := fun _ => by decide
theorem WordFits.lsym277 : WordFits.Statement .lsym277 := fun _ => by decide
theorem WordFits.lsym278 : WordFits.Statement .lsym278 := fun _ => by decide
theorem WordFits.lsym279 : WordFits.Statement .lsym279 := fun _ => by decide
theorem WordFits.lsym280 : WordFits.Statement .lsym280 := fun _ => by decide
theorem WordFits.lsym281 : WordFits.Statement .lsym281 := fun _ => by decide
theorem WordFits.lsym282 : WordFits.Statement .lsym282 := fun _ => by decide
theorem WordFits.lsym283 : WordFits.Statement .lsym283 := fun _ => by decide
theorem WordFits.lsym284 : WordFits.Statement .lsym284 := fun _ => by decide
theorem WordFits.lsym285 : WordFits.Statement .lsym285 := fun _ => by decide
theorem WordFits.lsym286 : WordFits.Statement .lsym286 := fun _ => by decide
theorem WordFits.lsym287 : WordFits.Statement .lsym287 := fun _ => by decide
theorem WordFits.dsym0 : WordFits.Statement .dsym0 := fun _ => by decide
theorem WordFits.dsym1 : WordFits.Statement .dsym1 := fun _ => by decide
theorem WordFits.dsym2 : WordFits.Statement .dsym2 := fun _ => by decide
theorem WordFits.dsym3 : WordFits.Statement .dsym3 := fun _ => by decide
theorem WordFits.dsym4 : WordFits.Statement .dsym4 := fun _ => by decide
theorem WordFits.dsym5 : WordFits.Statement .dsym5 := fun _ => by decide
theorem WordFits.dsym6 : WordFits.Statement .dsym6 := fun _ => by decide
theorem WordFits.dsym7 : WordFits.Statement .dsym7 := fun _ => by decide
theorem WordFits.dsym8 : WordFits.Statement .dsym8 := fun _ => by decide
theorem WordFits.dsym9 : WordFits.Statement .dsym9 := fun _ => by decide
theorem WordFits.dsym10 : WordFits.Statement .dsym10 := fun _ => by decide
theorem WordFits.dsym11 : WordFits.Statement .dsym11 := fun _ => by decide
theorem WordFits.dsym12 : WordFits.Statement .dsym12 := fun _ => by decide
theorem WordFits.dsym13 : WordFits.Statement .dsym13 := fun _ => by decide
theorem WordFits.dsym14 : WordFits.Statement .dsym14 := fun _ => by decide
theorem WordFits.dsym15 : WordFits.Statement .dsym15 := fun _ => by decide
theorem WordFits.dsym16 : WordFits.Statement .dsym16 := fun _ => by decide
theorem WordFits.dsym17 : WordFits.Statement .dsym17 := fun _ => by decide
theorem WordFits.dsym18 : WordFits.Statement .dsym18 := fun _ => by decide
theorem WordFits.dsym19 : WordFits.Statement .dsym19 := fun _ => by decide
theorem WordFits.dsym20 : WordFits.Statement .dsym20 := fun _ => by decide
theorem WordFits.dsym21 : WordFits.Statement .dsym21 := fun _ => by decide
theorem WordFits.dsym22 : WordFits.Statement .dsym22 := fun _ => by decide
theorem WordFits.dsym23 : WordFits.Statement .dsym23 := fun _ => by decide
theorem WordFits.dsym24 : WordFits.Statement .dsym24 := fun _ => by decide
theorem WordFits.dsym25 : WordFits.Statement .dsym25 := fun _ => by decide
theorem WordFits.dsym26 : WordFits.Statement .dsym26 := fun _ => by decide
theorem WordFits.dsym27 : WordFits.Statement .dsym27 := fun _ => by decide
theorem WordFits.dsym28 : WordFits.Statement .dsym28 := fun _ => by decide
theorem WordFits.dsym29 : WordFits.Statement .dsym29 := fun _ => by decide
theorem WordFits.dsym30 : WordFits.Statement .dsym30 := fun _ => by decide
theorem WordFits.dsym31 : WordFits.Statement .dsym31 := fun _ => by decide
theorem WordFits.preHlit (h : Nat) : WordFits.Statement (.preHlit h) := fun h => h
theorem WordFits.preHdist (d : Nat) : WordFits.Statement (.preHdist d) := fun h => h
theorem WordFits.preHclen (c : Nat) : WordFits.Statement (.preHclen c) := fun h => h
theorem WordFits.preCll0 (v : Nat) : WordFits.Statement (.preCll0 v) := fun h => h
theorem WordFits.preCll1 (v : Nat) : WordFits.Statement (.preCll1 v) := fun h => h
theorem WordFits.preCll2 (v : Nat) : WordFits.Statement (.preCll2 v) := fun h => h
theorem WordFits.preCll3 (v : Nat) : WordFits.Statement (.preCll3 v) := fun h => h
theorem WordFits.preCll4 (v : Nat) : WordFits.Statement (.preCll4 v) := fun h => h
theorem WordFits.preCll5 (v : Nat) : WordFits.Statement (.preCll5 v) := fun h => h
theorem WordFits.preCll6 (v : Nat) : WordFits.Statement (.preCll6 v) := fun h => h
theorem WordFits.preCll7 (v : Nat) : WordFits.Statement (.preCll7 v) := fun h => h
theorem WordFits.preCll8 (v : Nat) : WordFits.Statement (.preCll8 v) := fun h => h
theorem WordFits.preCll9 (v : Nat) : WordFits.Statement (.preCll9 v) := fun h => h
theorem WordFits.preCll10 (v : Nat) : WordFits.Statement (.preCll10 v) := fun h => h
theorem WordFits.preCll11 (v : Nat) : WordFits.Statement (.preCll11 v) := fun h => h
theorem WordFits.preCll12 (v : Nat) : WordFits.Statement (.preCll12 v) := fun h => h
theorem WordFits.preCll13 (v : Nat) : WordFits.Statement (.preCll13 v) := fun h => h
theorem WordFits.preCll14 (v : Nat) : WordFits.Statement (.preCll14 v) := fun h => h
theorem WordFits.preCll15 (v : Nat) : WordFits.Statement (.preCll15 v) := fun h => h
theorem WordFits.preCll16 (v : Nat) : WordFits.Statement (.preCll16 v) := fun h => h
theorem WordFits.preCll17 (v : Nat) : WordFits.Statement (.preCll17 v) := fun h => h
theorem WordFits.preCll18 (v : Nat) : WordFits.Statement (.preCll18 v) := fun h => h
theorem WordFits.clsym0 : WordFits.Statement .clsym0 := fun _ => by decide
theorem WordFits.clsym1 : WordFits.Statement .clsym1 := fun _ => by decide
theorem WordFits.clsym2 : WordFits.Statement .clsym2 := fun _ => by decide
theorem WordFits.clsym3 : WordFits.Statement .clsym3 := fun _ => by decide
theorem WordFits.clsym4 : WordFits.Statement .clsym4 := fun _ => by decide
theorem WordFits.clsym5 : WordFits.Statement .clsym5 := fun _ => by decide
theorem WordFits.clsym6 : WordFits.Statement .clsym6 := fun _ => by decide
theorem WordFits.clsym7 : WordFits.Statement .clsym7 := fun _ => by decide
theorem WordFits.clsym8 : WordFits.Statement .clsym8 := fun _ => by decide
theorem WordFits.clsym9 : WordFits.Statement .clsym9 := fun _ => by decide
theorem WordFits.clsym10 : WordFits.Statement .clsym10 := fun _ => by decide
theorem WordFits.clsym11 : WordFits.Statement .clsym11 := fun _ => by decide
theorem WordFits.clsym12 : WordFits.Statement .clsym12 := fun _ => by decide
theorem WordFits.clsym13 : WordFits.Statement .clsym13 := fun _ => by decide
theorem WordFits.clsym14 : WordFits.Statement .clsym14 := fun _ => by decide
theorem WordFits.clsym15 : WordFits.Statement .clsym15 := fun _ => by decide
theorem WordFits.clsym16 : WordFits.Statement .clsym16 := fun _ => by decide
theorem WordFits.clsym17 : WordFits.Statement .clsym17 := fun _ => by decide
theorem WordFits.clsym18 : WordFits.Statement .clsym18 := fun _ => by decide
theorem WordFits.fixedLit0 : WordFits.Statement .fixedLit0 := fun _ => by decide
theorem WordFits.fixedLit1 : WordFits.Statement .fixedLit1 := fun _ => by decide
theorem WordFits.fixedLit2 : WordFits.Statement .fixedLit2 := fun _ => by decide
theorem WordFits.fixedLit3 : WordFits.Statement .fixedLit3 := fun _ => by decide
theorem WordFits.fixedLit4 : WordFits.Statement .fixedLit4 := fun _ => by decide
theorem WordFits.fixedLit5 : WordFits.Statement .fixedLit5 := fun _ => by decide
theorem WordFits.fixedLit6 : WordFits.Statement .fixedLit6 := fun _ => by decide
theorem WordFits.fixedLit7 : WordFits.Statement .fixedLit7 := fun _ => by decide
theorem WordFits.fixedLit8 : WordFits.Statement .fixedLit8 := fun _ => by decide
theorem WordFits.fixedLit9 : WordFits.Statement .fixedLit9 := fun _ => by decide
theorem WordFits.fixedLit10 : WordFits.Statement .fixedLit10 := fun _ => by decide
theorem WordFits.fixedLit11 : WordFits.Statement .fixedLit11 := fun _ => by decide
theorem WordFits.fixedLit12 : WordFits.Statement .fixedLit12 := fun _ => by decide
theorem WordFits.fixedLit13 : WordFits.Statement .fixedLit13 := fun _ => by decide
theorem WordFits.fixedLit14 : WordFits.Statement .fixedLit14 := fun _ => by decide
theorem WordFits.fixedLit15 : WordFits.Statement .fixedLit15 := fun _ => by decide
theorem WordFits.fixedLit16 : WordFits.Statement .fixedLit16 := fun _ => by decide
theorem WordFits.fixedLit17 : WordFits.Statement .fixedLit17 := fun _ => by decide
theorem WordFits.fixedLit18 : WordFits.Statement .fixedLit18 := fun _ => by decide
theorem WordFits.fixedLit19 : WordFits.Statement .fixedLit19 := fun _ => by decide
theorem WordFits.fixedLit20 : WordFits.Statement .fixedLit20 := fun _ => by decide
theorem WordFits.fixedLit21 : WordFits.Statement .fixedLit21 := fun _ => by decide
theorem WordFits.fixedLit22 : WordFits.Statement .fixedLit22 := fun _ => by decide
theorem WordFits.fixedLit23 : WordFits.Statement .fixedLit23 := fun _ => by decide
theorem WordFits.fixedLit24 : WordFits.Statement .fixedLit24 := fun _ => by decide
theorem WordFits.fixedLit25 : WordFits.Statement .fixedLit25 := fun _ => by decide
theorem WordFits.fixedLit26 : WordFits.Statement .fixedLit26 := fun _ => by decide
theorem WordFits.fixedLit27 : WordFits.Statement .fixedLit27 := fun _ => by decide
theorem WordFits.fixedLit28 : WordFits.Statement .fixedLit28 := fun _ => by decide
theorem WordFits.fixedLit29 : WordFits.Statement .fixedLit29 := fun _ => by decide
theorem WordFits.fixedLit30 : WordFits.Statement .fixedLit30 := fun _ => by decide
theorem WordFits.fixedLit31 : WordFits.Statement .fixedLit31 := fun _ => by decide
theorem WordFits.fixedLit32 : WordFits.Statement .fixedLit32 := fun _ => by decide
theorem WordFits.fixedLit33 : WordFits.Statement .fixedLit33 := fun _ => by decide
theorem WordFits.fixedLit34 : WordFits.Statement .fixedLit34 := fun _ => by decide
theorem WordFits.fixedLit35 : WordFits.Statement .fixedLit35 := fun _ => by decide
theorem WordFits.fixedLit36 : WordFits.Statement .fixedLit36 := fun _ => by decide
theorem WordFits.fixedLit37 : WordFits.Statement .fixedLit37 := fun _ => by decide
theorem WordFits.fixedLit38 : WordFits.Statement .fixedLit38 := fun _ => by decide
theorem WordFits.fixedLit39 : WordFits.Statement .fixedLit39 := fun _ => by decide
theorem WordFits.fixedLit40 : WordFits.Statement .fixedLit40 := fun _ => by decide
theorem WordFits.fixedLit41 : WordFits.Statement .fixedLit41 := fun _ => by decide
theorem WordFits.fixedLit42 : WordFits.Statement .fixedLit42 := fun _ => by decide
theorem WordFits.fixedLit43 : WordFits.Statement .fixedLit43 := fun _ => by decide
theorem WordFits.fixedLit44 : WordFits.Statement .fixedLit44 := fun _ => by decide
theorem WordFits.fixedLit45 : WordFits.Statement .fixedLit45 := fun _ => by decide
theorem WordFits.fixedLit46 : WordFits.Statement .fixedLit46 := fun _ => by decide
theorem WordFits.fixedLit47 : WordFits.Statement .fixedLit47 := fun _ => by decide
theorem WordFits.fixedLit48 : WordFits.Statement .fixedLit48 := fun _ => by decide
theorem WordFits.fixedLit49 : WordFits.Statement .fixedLit49 := fun _ => by decide
theorem WordFits.fixedLit50 : WordFits.Statement .fixedLit50 := fun _ => by decide
theorem WordFits.fixedLit51 : WordFits.Statement .fixedLit51 := fun _ => by decide
theorem WordFits.fixedLit52 : WordFits.Statement .fixedLit52 := fun _ => by decide
theorem WordFits.fixedLit53 : WordFits.Statement .fixedLit53 := fun _ => by decide
theorem WordFits.fixedLit54 : WordFits.Statement .fixedLit54 := fun _ => by decide
theorem WordFits.fixedLit55 : WordFits.Statement .fixedLit55 := fun _ => by decide
theorem WordFits.fixedLit56 : WordFits.Statement .fixedLit56 := fun _ => by decide
theorem WordFits.fixedLit57 : WordFits.Statement .fixedLit57 := fun _ => by decide
theorem WordFits.fixedLit58 : WordFits.Statement .fixedLit58 := fun _ => by decide
theorem WordFits.fixedLit59 : WordFits.Statement .fixedLit59 := fun _ => by decide
theorem WordFits.fixedLit60 : WordFits.Statement .fixedLit60 := fun _ => by decide
theorem WordFits.fixedLit61 : WordFits.Statement .fixedLit61 := fun _ => by decide
theorem WordFits.fixedLit62 : WordFits.Statement .fixedLit62 := fun _ => by decide
theorem WordFits.fixedLit63 : WordFits.Statement .fixedLit63 := fun _ => by decide
theorem WordFits.fixedLit64 : WordFits.Statement .fixedLit64 := fun _ => by decide
theorem WordFits.fixedLit65 : WordFits.Statement .fixedLit65 := fun _ => by decide
theorem WordFits.fixedLit66 : WordFits.Statement .fixedLit66 := fun _ => by decide
theorem WordFits.fixedLit67 : WordFits.Statement .fixedLit67 := fun _ => by decide
theorem WordFits.fixedLit68 : WordFits.Statement .fixedLit68 := fun _ => by decide
theorem WordFits.fixedLit69 : WordFits.Statement .fixedLit69 := fun _ => by decide
theorem WordFits.fixedLit70 : WordFits.Statement .fixedLit70 := fun _ => by decide
theorem WordFits.fixedLit71 : WordFits.Statement .fixedLit71 := fun _ => by decide
theorem WordFits.fixedLit72 : WordFits.Statement .fixedLit72 := fun _ => by decide
theorem WordFits.fixedLit73 : WordFits.Statement .fixedLit73 := fun _ => by decide
theorem WordFits.fixedLit74 : WordFits.Statement .fixedLit74 := fun _ => by decide
theorem WordFits.fixedLit75 : WordFits.Statement .fixedLit75 := fun _ => by decide
theorem WordFits.fixedLit76 : WordFits.Statement .fixedLit76 := fun _ => by decide
theorem WordFits.fixedLit77 : WordFits.Statement .fixedLit77 := fun _ => by decide
theorem WordFits.fixedLit78 : WordFits.Statement .fixedLit78 := fun _ => by decide
theorem WordFits.fixedLit79 : WordFits.Statement .fixedLit79 := fun _ => by decide
theorem WordFits.fixedLit80 : WordFits.Statement .fixedLit80 := fun _ => by decide
theorem WordFits.fixedLit81 : WordFits.Statement .fixedLit81 := fun _ => by decide
theorem WordFits.fixedLit82 : WordFits.Statement .fixedLit82 := fun _ => by decide
theorem WordFits.fixedLit83 : WordFits.Statement .fixedLit83 := fun _ => by decide
theorem WordFits.fixedLit84 : WordFits.Statement .fixedLit84 := fun _ => by decide
theorem WordFits.fixedLit85 : WordFits.Statement .fixedLit85 := fun _ => by decide
theorem WordFits.fixedLit86 : WordFits.Statement .fixedLit86 := fun _ => by decide
theorem WordFits.fixedLit87 : WordFits.Statement .fixedLit87 := fun _ => by decide
theorem WordFits.fixedLit88 : WordFits.Statement .fixedLit88 := fun _ => by decide
theorem WordFits.fixedLit89 : WordFits.Statement .fixedLit89 := fun _ => by decide
theorem WordFits.fixedLit90 : WordFits.Statement .fixedLit90 := fun _ => by decide
theorem WordFits.fixedLit91 : WordFits.Statement .fixedLit91 := fun _ => by decide
theorem WordFits.fixedLit92 : WordFits.Statement .fixedLit92 := fun _ => by decide
theorem WordFits.fixedLit93 : WordFits.Statement .fixedLit93 := fun _ => by decide
theorem WordFits.fixedLit94 : WordFits.Statement .fixedLit94 := fun _ => by decide
theorem WordFits.fixedLit95 : WordFits.Statement .fixedLit95 := fun _ => by decide
theorem WordFits.fixedLit96 : WordFits.Statement .fixedLit96 := fun _ => by decide
theorem WordFits.fixedLit97 : WordFits.Statement .fixedLit97 := fun _ => by decide
theorem WordFits.fixedLit98 : WordFits.Statement .fixedLit98 := fun _ => by decide
theorem WordFits.fixedLit99 : WordFits.Statement .fixedLit99 := fun _ => by decide
theorem WordFits.fixedLit100 : WordFits.Statement .fixedLit100 := fun _ => by decide
theorem WordFits.fixedLit101 : WordFits.Statement .fixedLit101 := fun _ => by decide
theorem WordFits.fixedLit102 : WordFits.Statement .fixedLit102 := fun _ => by decide
theorem WordFits.fixedLit103 : WordFits.Statement .fixedLit103 := fun _ => by decide
theorem WordFits.fixedLit104 : WordFits.Statement .fixedLit104 := fun _ => by decide
theorem WordFits.fixedLit105 : WordFits.Statement .fixedLit105 := fun _ => by decide
theorem WordFits.fixedLit106 : WordFits.Statement .fixedLit106 := fun _ => by decide
theorem WordFits.fixedLit107 : WordFits.Statement .fixedLit107 := fun _ => by decide
theorem WordFits.fixedLit108 : WordFits.Statement .fixedLit108 := fun _ => by decide
theorem WordFits.fixedLit109 : WordFits.Statement .fixedLit109 := fun _ => by decide
theorem WordFits.fixedLit110 : WordFits.Statement .fixedLit110 := fun _ => by decide
theorem WordFits.fixedLit111 : WordFits.Statement .fixedLit111 := fun _ => by decide
theorem WordFits.fixedLit112 : WordFits.Statement .fixedLit112 := fun _ => by decide
theorem WordFits.fixedLit113 : WordFits.Statement .fixedLit113 := fun _ => by decide
theorem WordFits.fixedLit114 : WordFits.Statement .fixedLit114 := fun _ => by decide
theorem WordFits.fixedLit115 : WordFits.Statement .fixedLit115 := fun _ => by decide
theorem WordFits.fixedLit116 : WordFits.Statement .fixedLit116 := fun _ => by decide
theorem WordFits.fixedLit117 : WordFits.Statement .fixedLit117 := fun _ => by decide
theorem WordFits.fixedLit118 : WordFits.Statement .fixedLit118 := fun _ => by decide
theorem WordFits.fixedLit119 : WordFits.Statement .fixedLit119 := fun _ => by decide
theorem WordFits.fixedLit120 : WordFits.Statement .fixedLit120 := fun _ => by decide
theorem WordFits.fixedLit121 : WordFits.Statement .fixedLit121 := fun _ => by decide
theorem WordFits.fixedLit122 : WordFits.Statement .fixedLit122 := fun _ => by decide
theorem WordFits.fixedLit123 : WordFits.Statement .fixedLit123 := fun _ => by decide
theorem WordFits.fixedLit124 : WordFits.Statement .fixedLit124 := fun _ => by decide
theorem WordFits.fixedLit125 : WordFits.Statement .fixedLit125 := fun _ => by decide
theorem WordFits.fixedLit126 : WordFits.Statement .fixedLit126 := fun _ => by decide
theorem WordFits.fixedLit127 : WordFits.Statement .fixedLit127 := fun _ => by decide
theorem WordFits.fixedLit128 : WordFits.Statement .fixedLit128 := fun _ => by decide
theorem WordFits.fixedLit129 : WordFits.Statement .fixedLit129 := fun _ => by decide
theorem WordFits.fixedLit130 : WordFits.Statement .fixedLit130 := fun _ => by decide
theorem WordFits.fixedLit131 : WordFits.Statement .fixedLit131 := fun _ => by decide
theorem WordFits.fixedLit132 : WordFits.Statement .fixedLit132 := fun _ => by decide
theorem WordFits.fixedLit133 : WordFits.Statement .fixedLit133 := fun _ => by decide
theorem WordFits.fixedLit134 : WordFits.Statement .fixedLit134 := fun _ => by decide
theorem WordFits.fixedLit135 : WordFits.Statement .fixedLit135 := fun _ => by decide
theorem WordFits.fixedLit136 : WordFits.Statement .fixedLit136 := fun _ => by decide
theorem WordFits.fixedLit137 : WordFits.Statement .fixedLit137 := fun _ => by decide
theorem WordFits.fixedLit138 : WordFits.Statement .fixedLit138 := fun _ => by decide
theorem WordFits.fixedLit139 : WordFits.Statement .fixedLit139 := fun _ => by decide
theorem WordFits.fixedLit140 : WordFits.Statement .fixedLit140 := fun _ => by decide
theorem WordFits.fixedLit141 : WordFits.Statement .fixedLit141 := fun _ => by decide
theorem WordFits.fixedLit142 : WordFits.Statement .fixedLit142 := fun _ => by decide
theorem WordFits.fixedLit143 : WordFits.Statement .fixedLit143 := fun _ => by decide
theorem WordFits.fixedLit144 : WordFits.Statement .fixedLit144 := fun _ => by decide
theorem WordFits.fixedLit145 : WordFits.Statement .fixedLit145 := fun _ => by decide
theorem WordFits.fixedLit146 : WordFits.Statement .fixedLit146 := fun _ => by decide
theorem WordFits.fixedLit147 : WordFits.Statement .fixedLit147 := fun _ => by decide
theorem WordFits.fixedLit148 : WordFits.Statement .fixedLit148 := fun _ => by decide
theorem WordFits.fixedLit149 : WordFits.Statement .fixedLit149 := fun _ => by decide
theorem WordFits.fixedLit150 : WordFits.Statement .fixedLit150 := fun _ => by decide
theorem WordFits.fixedLit151 : WordFits.Statement .fixedLit151 := fun _ => by decide
theorem WordFits.fixedLit152 : WordFits.Statement .fixedLit152 := fun _ => by decide
theorem WordFits.fixedLit153 : WordFits.Statement .fixedLit153 := fun _ => by decide
theorem WordFits.fixedLit154 : WordFits.Statement .fixedLit154 := fun _ => by decide
theorem WordFits.fixedLit155 : WordFits.Statement .fixedLit155 := fun _ => by decide
theorem WordFits.fixedLit156 : WordFits.Statement .fixedLit156 := fun _ => by decide
theorem WordFits.fixedLit157 : WordFits.Statement .fixedLit157 := fun _ => by decide
theorem WordFits.fixedLit158 : WordFits.Statement .fixedLit158 := fun _ => by decide
theorem WordFits.fixedLit159 : WordFits.Statement .fixedLit159 := fun _ => by decide
theorem WordFits.fixedLit160 : WordFits.Statement .fixedLit160 := fun _ => by decide
theorem WordFits.fixedLit161 : WordFits.Statement .fixedLit161 := fun _ => by decide
theorem WordFits.fixedLit162 : WordFits.Statement .fixedLit162 := fun _ => by decide
theorem WordFits.fixedLit163 : WordFits.Statement .fixedLit163 := fun _ => by decide
theorem WordFits.fixedLit164 : WordFits.Statement .fixedLit164 := fun _ => by decide
theorem WordFits.fixedLit165 : WordFits.Statement .fixedLit165 := fun _ => by decide
theorem WordFits.fixedLit166 : WordFits.Statement .fixedLit166 := fun _ => by decide
theorem WordFits.fixedLit167 : WordFits.Statement .fixedLit167 := fun _ => by decide
theorem WordFits.fixedLit168 : WordFits.Statement .fixedLit168 := fun _ => by decide
theorem WordFits.fixedLit169 : WordFits.Statement .fixedLit169 := fun _ => by decide
theorem WordFits.fixedLit170 : WordFits.Statement .fixedLit170 := fun _ => by decide
theorem WordFits.fixedLit171 : WordFits.Statement .fixedLit171 := fun _ => by decide
theorem WordFits.fixedLit172 : WordFits.Statement .fixedLit172 := fun _ => by decide
theorem WordFits.fixedLit173 : WordFits.Statement .fixedLit173 := fun _ => by decide
theorem WordFits.fixedLit174 : WordFits.Statement .fixedLit174 := fun _ => by decide
theorem WordFits.fixedLit175 : WordFits.Statement .fixedLit175 := fun _ => by decide
theorem WordFits.fixedLit176 : WordFits.Statement .fixedLit176 := fun _ => by decide
theorem WordFits.fixedLit177 : WordFits.Statement .fixedLit177 := fun _ => by decide
theorem WordFits.fixedLit178 : WordFits.Statement .fixedLit178 := fun _ => by decide
theorem WordFits.fixedLit179 : WordFits.Statement .fixedLit179 := fun _ => by decide
theorem WordFits.fixedLit180 : WordFits.Statement .fixedLit180 := fun _ => by decide
theorem WordFits.fixedLit181 : WordFits.Statement .fixedLit181 := fun _ => by decide
theorem WordFits.fixedLit182 : WordFits.Statement .fixedLit182 := fun _ => by decide
theorem WordFits.fixedLit183 : WordFits.Statement .fixedLit183 := fun _ => by decide
theorem WordFits.fixedLit184 : WordFits.Statement .fixedLit184 := fun _ => by decide
theorem WordFits.fixedLit185 : WordFits.Statement .fixedLit185 := fun _ => by decide
theorem WordFits.fixedLit186 : WordFits.Statement .fixedLit186 := fun _ => by decide
theorem WordFits.fixedLit187 : WordFits.Statement .fixedLit187 := fun _ => by decide
theorem WordFits.fixedLit188 : WordFits.Statement .fixedLit188 := fun _ => by decide
theorem WordFits.fixedLit189 : WordFits.Statement .fixedLit189 := fun _ => by decide
theorem WordFits.fixedLit190 : WordFits.Statement .fixedLit190 := fun _ => by decide
theorem WordFits.fixedLit191 : WordFits.Statement .fixedLit191 := fun _ => by decide
theorem WordFits.fixedLit192 : WordFits.Statement .fixedLit192 := fun _ => by decide
theorem WordFits.fixedLit193 : WordFits.Statement .fixedLit193 := fun _ => by decide
theorem WordFits.fixedLit194 : WordFits.Statement .fixedLit194 := fun _ => by decide
theorem WordFits.fixedLit195 : WordFits.Statement .fixedLit195 := fun _ => by decide
theorem WordFits.fixedLit196 : WordFits.Statement .fixedLit196 := fun _ => by decide
theorem WordFits.fixedLit197 : WordFits.Statement .fixedLit197 := fun _ => by decide
theorem WordFits.fixedLit198 : WordFits.Statement .fixedLit198 := fun _ => by decide
theorem WordFits.fixedLit199 : WordFits.Statement .fixedLit199 := fun _ => by decide
theorem WordFits.fixedLit200 : WordFits.Statement .fixedLit200 := fun _ => by decide
theorem WordFits.fixedLit201 : WordFits.Statement .fixedLit201 := fun _ => by decide
theorem WordFits.fixedLit202 : WordFits.Statement .fixedLit202 := fun _ => by decide
theorem WordFits.fixedLit203 : WordFits.Statement .fixedLit203 := fun _ => by decide
theorem WordFits.fixedLit204 : WordFits.Statement .fixedLit204 := fun _ => by decide
theorem WordFits.fixedLit205 : WordFits.Statement .fixedLit205 := fun _ => by decide
theorem WordFits.fixedLit206 : WordFits.Statement .fixedLit206 := fun _ => by decide
theorem WordFits.fixedLit207 : WordFits.Statement .fixedLit207 := fun _ => by decide
theorem WordFits.fixedLit208 : WordFits.Statement .fixedLit208 := fun _ => by decide
theorem WordFits.fixedLit209 : WordFits.Statement .fixedLit209 := fun _ => by decide
theorem WordFits.fixedLit210 : WordFits.Statement .fixedLit210 := fun _ => by decide
theorem WordFits.fixedLit211 : WordFits.Statement .fixedLit211 := fun _ => by decide
theorem WordFits.fixedLit212 : WordFits.Statement .fixedLit212 := fun _ => by decide
theorem WordFits.fixedLit213 : WordFits.Statement .fixedLit213 := fun _ => by decide
theorem WordFits.fixedLit214 : WordFits.Statement .fixedLit214 := fun _ => by decide
theorem WordFits.fixedLit215 : WordFits.Statement .fixedLit215 := fun _ => by decide
theorem WordFits.fixedLit216 : WordFits.Statement .fixedLit216 := fun _ => by decide
theorem WordFits.fixedLit217 : WordFits.Statement .fixedLit217 := fun _ => by decide
theorem WordFits.fixedLit218 : WordFits.Statement .fixedLit218 := fun _ => by decide
theorem WordFits.fixedLit219 : WordFits.Statement .fixedLit219 := fun _ => by decide
theorem WordFits.fixedLit220 : WordFits.Statement .fixedLit220 := fun _ => by decide
theorem WordFits.fixedLit221 : WordFits.Statement .fixedLit221 := fun _ => by decide
theorem WordFits.fixedLit222 : WordFits.Statement .fixedLit222 := fun _ => by decide
theorem WordFits.fixedLit223 : WordFits.Statement .fixedLit223 := fun _ => by decide
theorem WordFits.fixedLit224 : WordFits.Statement .fixedLit224 := fun _ => by decide
theorem WordFits.fixedLit225 : WordFits.Statement .fixedLit225 := fun _ => by decide
theorem WordFits.fixedLit226 : WordFits.Statement .fixedLit226 := fun _ => by decide
theorem WordFits.fixedLit227 : WordFits.Statement .fixedLit227 := fun _ => by decide
theorem WordFits.fixedLit228 : WordFits.Statement .fixedLit228 := fun _ => by decide
theorem WordFits.fixedLit229 : WordFits.Statement .fixedLit229 := fun _ => by decide
theorem WordFits.fixedLit230 : WordFits.Statement .fixedLit230 := fun _ => by decide
theorem WordFits.fixedLit231 : WordFits.Statement .fixedLit231 := fun _ => by decide
theorem WordFits.fixedLit232 : WordFits.Statement .fixedLit232 := fun _ => by decide
theorem WordFits.fixedLit233 : WordFits.Statement .fixedLit233 := fun _ => by decide
theorem WordFits.fixedLit234 : WordFits.Statement .fixedLit234 := fun _ => by decide
theorem WordFits.fixedLit235 : WordFits.Statement .fixedLit235 := fun _ => by decide
theorem WordFits.fixedLit236 : WordFits.Statement .fixedLit236 := fun _ => by decide
theorem WordFits.fixedLit237 : WordFits.Statement .fixedLit237 := fun _ => by decide
theorem WordFits.fixedLit238 : WordFits.Statement .fixedLit238 := fun _ => by decide
theorem WordFits.fixedLit239 : WordFits.Statement .fixedLit239 := fun _ => by decide
theorem WordFits.fixedLit240 : WordFits.Statement .fixedLit240 := fun _ => by decide
theorem WordFits.fixedLit241 : WordFits.Statement .fixedLit241 := fun _ => by decide
theorem WordFits.fixedLit242 : WordFits.Statement .fixedLit242 := fun _ => by decide
theorem WordFits.fixedLit243 : WordFits.Statement .fixedLit243 := fun _ => by decide
theorem WordFits.fixedLit244 : WordFits.Statement .fixedLit244 := fun _ => by decide
theorem WordFits.fixedLit245 : WordFits.Statement .fixedLit245 := fun _ => by decide
theorem WordFits.fixedLit246 : WordFits.Statement .fixedLit246 := fun _ => by decide
theorem WordFits.fixedLit247 : WordFits.Statement .fixedLit247 := fun _ => by decide
theorem WordFits.fixedLit248 : WordFits.Statement .fixedLit248 := fun _ => by decide
theorem WordFits.fixedLit249 : WordFits.Statement .fixedLit249 := fun _ => by decide
theorem WordFits.fixedLit250 : WordFits.Statement .fixedLit250 := fun _ => by decide
theorem WordFits.fixedLit251 : WordFits.Statement .fixedLit251 := fun _ => by decide
theorem WordFits.fixedLit252 : WordFits.Statement .fixedLit252 := fun _ => by decide
theorem WordFits.fixedLit253 : WordFits.Statement .fixedLit253 := fun _ => by decide
theorem WordFits.fixedLit254 : WordFits.Statement .fixedLit254 := fun _ => by decide
theorem WordFits.fixedLit255 : WordFits.Statement .fixedLit255 := fun _ => by decide
theorem WordFits.fixedEob : WordFits.Statement .fixedEob := fun _ => by decide
theorem WordFits.fixedLsym257 : WordFits.Statement .fixedLsym257 := fun _ => by decide
theorem WordFits.fixedLsym258 : WordFits.Statement .fixedLsym258 := fun _ => by decide
theorem WordFits.fixedLsym259 : WordFits.Statement .fixedLsym259 := fun _ => by decide
theorem WordFits.fixedLsym260 : WordFits.Statement .fixedLsym260 := fun _ => by decide
theorem WordFits.fixedLsym261 : WordFits.Statement .fixedLsym261 := fun _ => by decide
theorem WordFits.fixedLsym262 : WordFits.Statement .fixedLsym262 := fun _ => by decide
theorem WordFits.fixedLsym263 : WordFits.Statement .fixedLsym263 := fun _ => by decide
theorem WordFits.fixedLsym264 : WordFits.Statement .fixedLsym264 := fun _ => by decide
theorem WordFits.fixedLsym265 : WordFits.Statement .fixedLsym265 := fun _ => by decide
theorem WordFits.fixedLsym266 : WordFits.Statement .fixedLsym266 := fun _ => by decide
theorem WordFits.fixedLsym267 : WordFits.Statement .fixedLsym267 := fun _ => by decide
theorem WordFits.fixedLsym268 : WordFits.Statement .fixedLsym268 := fun _ => by decide
theorem WordFits.fixedLsym269 : WordFits.Statement .fixedLsym269 := fun _ => by decide
theorem WordFits.fixedLsym270 : WordFits.Statement .fixedLsym270 := fun _ => by decide
theorem WordFits.fixedLsym271 : WordFits.Statement .fixedLsym271 := fun _ => by decide
theorem WordFits.fixedLsym272 : WordFits.Statement .fixedLsym272 := fun _ => by decide
theorem WordFits.fixedLsym273 : WordFits.Statement .fixedLsym273 := fun _ => by decide
theorem WordFits.fixedLsym274 : WordFits.Statement .fixedLsym274 := fun _ => by decide
theorem WordFits.fixedLsym275 : WordFits.Statement .fixedLsym275 := fun _ => by decide
theorem WordFits.fixedLsym276 : WordFits.Statement .fixedLsym276 := fun _ => by decide
theorem WordFits.fixedLsym277 : WordFits.Statement .fixedLsym277 := fun _ => by decide
theorem WordFits.fixedLsym278 : WordFits.Statement .fixedLsym278 := fun _ => by decide
theorem WordFits.fixedLsym279 : WordFits.Statement .fixedLsym279 := fun _ => by decide
theorem WordFits.fixedLsym280 : WordFits.Statement .fixedLsym280 := fun _ => by decide
theorem WordFits.fixedLsym281 : WordFits.Statement .fixedLsym281 := fun _ => by decide
theorem WordFits.fixedLsym282 : WordFits.Statement .fixedLsym282 := fun _ => by decide
theorem WordFits.fixedLsym283 : WordFits.Statement .fixedLsym283 := fun _ => by decide
theorem WordFits.fixedLsym284 : WordFits.Statement .fixedLsym284 := fun _ => by decide
theorem WordFits.fixedLsym285 : WordFits.Statement .fixedLsym285 := fun _ => by decide
theorem WordFits.fixedLsym286 : WordFits.Statement .fixedLsym286 := fun _ => by decide
theorem WordFits.fixedLsym287 : WordFits.Statement .fixedLsym287 := fun _ => by decide
theorem WordFits.fixedDsym0 : WordFits.Statement .fixedDsym0 := fun _ => by decide
theorem WordFits.fixedDsym1 : WordFits.Statement .fixedDsym1 := fun _ => by decide
theorem WordFits.fixedDsym2 : WordFits.Statement .fixedDsym2 := fun _ => by decide
theorem WordFits.fixedDsym3 : WordFits.Statement .fixedDsym3 := fun _ => by decide
theorem WordFits.fixedDsym4 : WordFits.Statement .fixedDsym4 := fun _ => by decide
theorem WordFits.fixedDsym5 : WordFits.Statement .fixedDsym5 := fun _ => by decide
theorem WordFits.fixedDsym6 : WordFits.Statement .fixedDsym6 := fun _ => by decide
theorem WordFits.fixedDsym7 : WordFits.Statement .fixedDsym7 := fun _ => by decide
theorem WordFits.fixedDsym8 : WordFits.Statement .fixedDsym8 := fun _ => by decide
theorem WordFits.fixedDsym9 : WordFits.Statement .fixedDsym9 := fun _ => by decide
theorem WordFits.fixedDsym10 : WordFits.Statement .fixedDsym10 := fun _ => by decide
theorem WordFits.fixedDsym11 : WordFits.Statement .fixedDsym11 := fun _ => by decide
theorem WordFits.fixedDsym12 : WordFits.Statement .fixedDsym12 := fun _ => by decide
theorem WordFits.fixedDsym13 : WordFits.Statement .fixedDsym13 := fun _ => by decide
theorem WordFits.fixedDsym14 : WordFits.Statement .fixedDsym14 := fun _ => by decide
theorem WordFits.fixedDsym15 : WordFits.Statement .fixedDsym15 := fun _ => by decide
theorem WordFits.fixedDsym16 : WordFits.Statement .fixedDsym16 := fun _ => by decide
theorem WordFits.fixedDsym17 : WordFits.Statement .fixedDsym17 := fun _ => by decide
theorem WordFits.fixedDsym18 : WordFits.Statement .fixedDsym18 := fun _ => by decide
theorem WordFits.fixedDsym19 : WordFits.Statement .fixedDsym19 := fun _ => by decide
theorem WordFits.fixedDsym20 : WordFits.Statement .fixedDsym20 := fun _ => by decide
theorem WordFits.fixedDsym21 : WordFits.Statement .fixedDsym21 := fun _ => by decide
theorem WordFits.fixedDsym22 : WordFits.Statement .fixedDsym22 := fun _ => by decide
theorem WordFits.fixedDsym23 : WordFits.Statement .fixedDsym23 := fun _ => by decide
theorem WordFits.fixedDsym24 : WordFits.Statement .fixedDsym24 := fun _ => by decide
theorem WordFits.fixedDsym25 : WordFits.Statement .fixedDsym25 := fun _ => by decide
theorem WordFits.fixedDsym26 : WordFits.Statement .fixedDsym26 := fun _ => by decide
theorem WordFits.fixedDsym27 : WordFits.Statement .fixedDsym27 := fun _ => by decide
theorem WordFits.fixedDsym28 : WordFits.Statement .fixedDsym28 := fun _ => by decide
theorem WordFits.fixedDsym29 : WordFits.Statement .fixedDsym29 := fun _ => by decide
theorem WordFits.fixedDsym30 : WordFits.Statement .fixedDsym30 := fun _ => by decide
theorem WordFits.fixedDsym31 : WordFits.Statement .fixedDsym31 := fun _ => by decide

end Sys2Proof.Laws
end

