-- ==== Sys2Proof/Laws/State.lean ====
section
/-! SUPPORT. What each named update does to each field of State, one lemma per field, so that no proof unfolds a record
update. -/

namespace Sys2Proof.Machine

variable (s : State)


/-! ### withPos -/

@[simp] theorem State.withPos_inp (p : Nat) : (s.withPos p).inp = s.inp := rfl
@[simp] theorem State.withPos_pos (p : Nat) : (s.withPos p).pos = p := rfl
@[simp] theorem State.withPos_tblFixedLL (p : Nat) : (s.withPos p).tblFixedLL = s.tblFixedLL := rfl
@[simp] theorem State.withPos_tblFixedD (p : Nat) : (s.withPos p).tblFixedD = s.tblFixedD := rfl
@[simp] theorem State.withPos_tblClc (p : Nat) : (s.withPos p).tblClc = s.tblClc := rfl
@[simp] theorem State.withPos_tblDynLL (p : Nat) : (s.withPos p).tblDynLL = s.tblDynLL := rfl
@[simp] theorem State.withPos_tblDynD (p : Nat) : (s.withPos p).tblDynD = s.tblDynD := rfl
@[simp] theorem State.withPos_win (p : Nat) : (s.withPos p).win = s.win := rfl
@[simp] theorem State.withPos_winEra (p : Nat) : (s.withPos p).winEra = s.winEra := rfl
@[simp] theorem State.withPos_cur (p : Nat) : (s.withPos p).cur = s.cur := rfl
@[simp] theorem State.withPos_cnt (p : Nat) : (s.withPos p).cnt = s.cnt := rfl
@[simp] theorem State.withPos_out (p : Nat) : (s.withPos p).out = s.out := rfl
@[simp] theorem State.withPos_outReady (p : Nat) : (s.withPos p).outReady = s.outReady := rfl
@[simp] theorem State.withPos_bdState (p : Nat) : (s.withPos p).bdState = s.bdState := rfl
@[simp] theorem State.withPos_final (p : Nat) : (s.withPos p).final = s.final := rfl
@[simp] theorem State.withPos_type (p : Nat) : (s.withPos p).type = s.type := rfl
@[simp] theorem State.withPos_nlit (p : Nat) : (s.withPos p).nlit = s.nlit := rfl
@[simp] theorem State.withPos_ndist (p : Nat) : (s.withPos p).ndist = s.ndist := rfl
@[simp] theorem State.withPos_nclen (p : Nat) : (s.withPos p).nclen = s.nclen := rfl
@[simp] theorem State.withPos_cll (p : Nat) : (s.withPos p).cll = s.cll := rfl
@[simp] theorem State.withPos_lenBuf (p : Nat) : (s.withPos p).lenBuf = s.lenBuf := rfl
@[simp] theorem State.withPos_lenCnt (p : Nat) : (s.withPos p).lenCnt = s.lenCnt := rfl
@[simp] theorem State.withPos_distPresent (p : Nat) : (s.withPos p).distPresent = s.distPresent := rfl
@[simp] theorem State.withPos_err (p : Nat) : (s.withPos p).err = s.err := rfl
@[simp] theorem State.withPos_phase (p : Nat) : (s.withPos p).phase = s.phase := rfl
@[simp] theorem State.withPos_port (p : Nat) : (s.withPos p).port = s.port := rfl
@[simp] theorem State.withPos_resp (p : Nat) : (s.withPos p).resp = s.resp := rfl
@[simp] theorem State.withPos_free (p : Nat) : (s.withPos p).free = s.free := rfl

/-! ### respondOk -/

@[simp] theorem State.respondOk_inp (v : Nat) : (s.respondOk v).inp = s.inp := rfl
@[simp] theorem State.respondOk_pos (v : Nat) : (s.respondOk v).pos = s.pos := rfl
@[simp] theorem State.respondOk_tblFixedLL (v : Nat) : (s.respondOk v).tblFixedLL = s.tblFixedLL := rfl
@[simp] theorem State.respondOk_tblFixedD (v : Nat) : (s.respondOk v).tblFixedD = s.tblFixedD := rfl
@[simp] theorem State.respondOk_tblClc (v : Nat) : (s.respondOk v).tblClc = s.tblClc := rfl
@[simp] theorem State.respondOk_tblDynLL (v : Nat) : (s.respondOk v).tblDynLL = s.tblDynLL := rfl
@[simp] theorem State.respondOk_tblDynD (v : Nat) : (s.respondOk v).tblDynD = s.tblDynD := rfl
@[simp] theorem State.respondOk_win (v : Nat) : (s.respondOk v).win = s.win := rfl
@[simp] theorem State.respondOk_winEra (v : Nat) : (s.respondOk v).winEra = s.winEra := rfl
@[simp] theorem State.respondOk_cur (v : Nat) : (s.respondOk v).cur = s.cur := rfl
@[simp] theorem State.respondOk_cnt (v : Nat) : (s.respondOk v).cnt = s.cnt := rfl
@[simp] theorem State.respondOk_out (v : Nat) : (s.respondOk v).out = s.out := rfl
@[simp] theorem State.respondOk_outReady (v : Nat) : (s.respondOk v).outReady = s.outReady := rfl
@[simp] theorem State.respondOk_bdState (v : Nat) : (s.respondOk v).bdState = s.bdState := rfl
@[simp] theorem State.respondOk_final (v : Nat) : (s.respondOk v).final = s.final := rfl
@[simp] theorem State.respondOk_type (v : Nat) : (s.respondOk v).type = s.type := rfl
@[simp] theorem State.respondOk_nlit (v : Nat) : (s.respondOk v).nlit = s.nlit := rfl
@[simp] theorem State.respondOk_ndist (v : Nat) : (s.respondOk v).ndist = s.ndist := rfl
@[simp] theorem State.respondOk_nclen (v : Nat) : (s.respondOk v).nclen = s.nclen := rfl
@[simp] theorem State.respondOk_cll (v : Nat) : (s.respondOk v).cll = s.cll := rfl
@[simp] theorem State.respondOk_lenBuf (v : Nat) : (s.respondOk v).lenBuf = s.lenBuf := rfl
@[simp] theorem State.respondOk_lenCnt (v : Nat) : (s.respondOk v).lenCnt = s.lenCnt := rfl
@[simp] theorem State.respondOk_distPresent (v : Nat) : (s.respondOk v).distPresent = s.distPresent := rfl
@[simp] theorem State.respondOk_err (v : Nat) : (s.respondOk v).err = s.err := rfl
@[simp] theorem State.respondOk_phase (v : Nat) : (s.respondOk v).phase = s.phase := rfl
@[simp] theorem State.respondOk_port (v : Nat) : (s.respondOk v).port = s.port := rfl
@[simp] theorem State.respondOk_resp (v : Nat) : (s.respondOk v).resp = some ⟨.ok, BitVec.ofNat 32 v⟩ := rfl
@[simp] theorem State.respondOk_free (v : Nat) : (s.respondOk v).free = s.free := rfl

/-! ### respondNone -/

@[simp] theorem State.respondNone_inp : (s.respondNone).inp = s.inp := rfl
@[simp] theorem State.respondNone_pos : (s.respondNone).pos = s.pos := rfl
@[simp] theorem State.respondNone_tblFixedLL : (s.respondNone).tblFixedLL = s.tblFixedLL := rfl
@[simp] theorem State.respondNone_tblFixedD : (s.respondNone).tblFixedD = s.tblFixedD := rfl
@[simp] theorem State.respondNone_tblClc : (s.respondNone).tblClc = s.tblClc := rfl
@[simp] theorem State.respondNone_tblDynLL : (s.respondNone).tblDynLL = s.tblDynLL := rfl
@[simp] theorem State.respondNone_tblDynD : (s.respondNone).tblDynD = s.tblDynD := rfl
@[simp] theorem State.respondNone_win : (s.respondNone).win = s.win := rfl
@[simp] theorem State.respondNone_winEra : (s.respondNone).winEra = s.winEra := rfl
@[simp] theorem State.respondNone_cur : (s.respondNone).cur = s.cur := rfl
@[simp] theorem State.respondNone_cnt : (s.respondNone).cnt = s.cnt := rfl
@[simp] theorem State.respondNone_out : (s.respondNone).out = s.out := rfl
@[simp] theorem State.respondNone_outReady : (s.respondNone).outReady = s.outReady := rfl
@[simp] theorem State.respondNone_bdState : (s.respondNone).bdState = s.bdState := rfl
@[simp] theorem State.respondNone_final : (s.respondNone).final = s.final := rfl
@[simp] theorem State.respondNone_type : (s.respondNone).type = s.type := rfl
@[simp] theorem State.respondNone_nlit : (s.respondNone).nlit = s.nlit := rfl
@[simp] theorem State.respondNone_ndist : (s.respondNone).ndist = s.ndist := rfl
@[simp] theorem State.respondNone_nclen : (s.respondNone).nclen = s.nclen := rfl
@[simp] theorem State.respondNone_cll : (s.respondNone).cll = s.cll := rfl
@[simp] theorem State.respondNone_lenBuf : (s.respondNone).lenBuf = s.lenBuf := rfl
@[simp] theorem State.respondNone_lenCnt : (s.respondNone).lenCnt = s.lenCnt := rfl
@[simp] theorem State.respondNone_distPresent : (s.respondNone).distPresent = s.distPresent := rfl
@[simp] theorem State.respondNone_err : (s.respondNone).err = s.err := rfl
@[simp] theorem State.respondNone_phase : (s.respondNone).phase = s.phase := rfl
@[simp] theorem State.respondNone_port : (s.respondNone).port = s.port := rfl
@[simp] theorem State.respondNone_resp : (s.respondNone).resp = some ⟨.none, 0⟩ := rfl
@[simp] theorem State.respondNone_free : (s.respondNone).free = s.free := rfl

/-! ### refuse -/

@[simp] theorem State.refuse_inp : (s.refuse).inp = s.inp := rfl
@[simp] theorem State.refuse_pos : (s.refuse).pos = s.pos := rfl
@[simp] theorem State.refuse_tblFixedLL : (s.refuse).tblFixedLL = s.tblFixedLL := rfl
@[simp] theorem State.refuse_tblFixedD : (s.refuse).tblFixedD = s.tblFixedD := rfl
@[simp] theorem State.refuse_tblClc : (s.refuse).tblClc = s.tblClc := rfl
@[simp] theorem State.refuse_tblDynLL : (s.refuse).tblDynLL = s.tblDynLL := rfl
@[simp] theorem State.refuse_tblDynD : (s.refuse).tblDynD = s.tblDynD := rfl
@[simp] theorem State.refuse_win : (s.refuse).win = s.win := rfl
@[simp] theorem State.refuse_winEra : (s.refuse).winEra = s.winEra := rfl
@[simp] theorem State.refuse_cur : (s.refuse).cur = s.cur := rfl
@[simp] theorem State.refuse_cnt : (s.refuse).cnt = s.cnt := rfl
@[simp] theorem State.refuse_out : (s.refuse).out = s.out := rfl
@[simp] theorem State.refuse_outReady : (s.refuse).outReady = s.outReady := rfl
@[simp] theorem State.refuse_bdState : (s.refuse).bdState = s.bdState := rfl
@[simp] theorem State.refuse_final : (s.refuse).final = s.final := rfl
@[simp] theorem State.refuse_type : (s.refuse).type = s.type := rfl
@[simp] theorem State.refuse_nlit : (s.refuse).nlit = s.nlit := rfl
@[simp] theorem State.refuse_ndist : (s.refuse).ndist = s.ndist := rfl
@[simp] theorem State.refuse_nclen : (s.refuse).nclen = s.nclen := rfl
@[simp] theorem State.refuse_cll : (s.refuse).cll = s.cll := rfl
@[simp] theorem State.refuse_lenBuf : (s.refuse).lenBuf = s.lenBuf := rfl
@[simp] theorem State.refuse_lenCnt : (s.refuse).lenCnt = s.lenCnt := rfl
@[simp] theorem State.refuse_distPresent : (s.refuse).distPresent = s.distPresent := rfl
@[simp] theorem State.refuse_err : (s.refuse).err = s.err := rfl
@[simp] theorem State.refuse_phase : (s.refuse).phase = s.phase := rfl
@[simp] theorem State.refuse_port : (s.refuse).port = s.port := rfl
@[simp] theorem State.refuse_resp : (s.refuse).resp = some ⟨.refused, 0⟩ := rfl
@[simp] theorem State.refuse_free : (s.refuse).free = s.free := rfl

/-! ### goto -/

@[simp] theorem State.goto_inp (p : Phase) : (s.goto p).inp = s.inp := rfl
@[simp] theorem State.goto_pos (p : Phase) : (s.goto p).pos = s.pos := rfl
@[simp] theorem State.goto_tblFixedLL (p : Phase) : (s.goto p).tblFixedLL = s.tblFixedLL := rfl
@[simp] theorem State.goto_tblFixedD (p : Phase) : (s.goto p).tblFixedD = s.tblFixedD := rfl
@[simp] theorem State.goto_tblClc (p : Phase) : (s.goto p).tblClc = s.tblClc := rfl
@[simp] theorem State.goto_tblDynLL (p : Phase) : (s.goto p).tblDynLL = s.tblDynLL := rfl
@[simp] theorem State.goto_tblDynD (p : Phase) : (s.goto p).tblDynD = s.tblDynD := rfl
@[simp] theorem State.goto_win (p : Phase) : (s.goto p).win = s.win := rfl
@[simp] theorem State.goto_winEra (p : Phase) : (s.goto p).winEra = s.winEra := rfl
@[simp] theorem State.goto_cur (p : Phase) : (s.goto p).cur = s.cur := rfl
@[simp] theorem State.goto_cnt (p : Phase) : (s.goto p).cnt = s.cnt := rfl
@[simp] theorem State.goto_out (p : Phase) : (s.goto p).out = s.out := rfl
@[simp] theorem State.goto_outReady (p : Phase) : (s.goto p).outReady = s.outReady := rfl
@[simp] theorem State.goto_bdState (p : Phase) : (s.goto p).bdState = s.bdState := rfl
@[simp] theorem State.goto_final (p : Phase) : (s.goto p).final = s.final := rfl
@[simp] theorem State.goto_type (p : Phase) : (s.goto p).type = s.type := rfl
@[simp] theorem State.goto_nlit (p : Phase) : (s.goto p).nlit = s.nlit := rfl
@[simp] theorem State.goto_ndist (p : Phase) : (s.goto p).ndist = s.ndist := rfl
@[simp] theorem State.goto_nclen (p : Phase) : (s.goto p).nclen = s.nclen := rfl
@[simp] theorem State.goto_cll (p : Phase) : (s.goto p).cll = s.cll := rfl
@[simp] theorem State.goto_lenBuf (p : Phase) : (s.goto p).lenBuf = s.lenBuf := rfl
@[simp] theorem State.goto_lenCnt (p : Phase) : (s.goto p).lenCnt = s.lenCnt := rfl
@[simp] theorem State.goto_distPresent (p : Phase) : (s.goto p).distPresent = s.distPresent := rfl
@[simp] theorem State.goto_err (p : Phase) : (s.goto p).err = s.err := rfl
@[simp] theorem State.goto_phase (p : Phase) : (s.goto p).phase = p := rfl
@[simp] theorem State.goto_port (p : Phase) : (s.goto p).port = s.port := rfl
@[simp] theorem State.goto_resp (p : Phase) : (s.goto p).resp = s.resp := rfl
@[simp] theorem State.goto_free (p : Phase) : (s.goto p).free = s.free := rfl

/-! ### enter -/

@[simp] theorem State.enter_inp (b : BdState) (p : Phase) : (s.enter b p).inp = s.inp := rfl
@[simp] theorem State.enter_pos (b : BdState) (p : Phase) : (s.enter b p).pos = s.pos := rfl
@[simp] theorem State.enter_tblFixedLL (b : BdState) (p : Phase) : (s.enter b p).tblFixedLL = s.tblFixedLL := rfl
@[simp] theorem State.enter_tblFixedD (b : BdState) (p : Phase) : (s.enter b p).tblFixedD = s.tblFixedD := rfl
@[simp] theorem State.enter_tblClc (b : BdState) (p : Phase) : (s.enter b p).tblClc = s.tblClc := rfl
@[simp] theorem State.enter_tblDynLL (b : BdState) (p : Phase) : (s.enter b p).tblDynLL = s.tblDynLL := rfl
@[simp] theorem State.enter_tblDynD (b : BdState) (p : Phase) : (s.enter b p).tblDynD = s.tblDynD := rfl
@[simp] theorem State.enter_win (b : BdState) (p : Phase) : (s.enter b p).win = s.win := rfl
@[simp] theorem State.enter_winEra (b : BdState) (p : Phase) : (s.enter b p).winEra = s.winEra := rfl
@[simp] theorem State.enter_cur (b : BdState) (p : Phase) : (s.enter b p).cur = s.cur := rfl
@[simp] theorem State.enter_cnt (b : BdState) (p : Phase) : (s.enter b p).cnt = s.cnt := rfl
@[simp] theorem State.enter_out (b : BdState) (p : Phase) : (s.enter b p).out = s.out := rfl
@[simp] theorem State.enter_outReady (b : BdState) (p : Phase) : (s.enter b p).outReady = s.outReady := rfl
@[simp] theorem State.enter_bdState (b : BdState) (p : Phase) : (s.enter b p).bdState = b := rfl
@[simp] theorem State.enter_final (b : BdState) (p : Phase) : (s.enter b p).final = s.final := rfl
@[simp] theorem State.enter_type (b : BdState) (p : Phase) : (s.enter b p).type = s.type := rfl
@[simp] theorem State.enter_nlit (b : BdState) (p : Phase) : (s.enter b p).nlit = s.nlit := rfl
@[simp] theorem State.enter_ndist (b : BdState) (p : Phase) : (s.enter b p).ndist = s.ndist := rfl
@[simp] theorem State.enter_nclen (b : BdState) (p : Phase) : (s.enter b p).nclen = s.nclen := rfl
@[simp] theorem State.enter_cll (b : BdState) (p : Phase) : (s.enter b p).cll = s.cll := rfl
@[simp] theorem State.enter_lenBuf (b : BdState) (p : Phase) : (s.enter b p).lenBuf = s.lenBuf := rfl
@[simp] theorem State.enter_lenCnt (b : BdState) (p : Phase) : (s.enter b p).lenCnt = s.lenCnt := rfl
@[simp] theorem State.enter_distPresent (b : BdState) (p : Phase) : (s.enter b p).distPresent = s.distPresent := rfl
@[simp] theorem State.enter_err (b : BdState) (p : Phase) : (s.enter b p).err = s.err := rfl
@[simp] theorem State.enter_phase (b : BdState) (p : Phase) : (s.enter b p).phase = p := rfl
@[simp] theorem State.enter_port (b : BdState) (p : Phase) : (s.enter b p).port = s.port := rfl
@[simp] theorem State.enter_resp (b : BdState) (p : Phase) : (s.enter b p).resp = s.resp := rfl
@[simp] theorem State.enter_free (b : BdState) (p : Phase) : (s.enter b p).free = s.free := rfl

/-! ### alignToByte -/

@[simp] theorem State.alignToByte_inp : (s.alignToByte).inp = s.inp := rfl
@[simp] theorem State.alignToByte_pos : (s.alignToByte).pos = (s.pos + 7) / 8 * 8 := rfl
@[simp] theorem State.alignToByte_tblFixedLL : (s.alignToByte).tblFixedLL = s.tblFixedLL := rfl
@[simp] theorem State.alignToByte_tblFixedD : (s.alignToByte).tblFixedD = s.tblFixedD := rfl
@[simp] theorem State.alignToByte_tblClc : (s.alignToByte).tblClc = s.tblClc := rfl
@[simp] theorem State.alignToByte_tblDynLL : (s.alignToByte).tblDynLL = s.tblDynLL := rfl
@[simp] theorem State.alignToByte_tblDynD : (s.alignToByte).tblDynD = s.tblDynD := rfl
@[simp] theorem State.alignToByte_win : (s.alignToByte).win = s.win := rfl
@[simp] theorem State.alignToByte_winEra : (s.alignToByte).winEra = s.winEra := rfl
@[simp] theorem State.alignToByte_cur : (s.alignToByte).cur = s.cur := rfl
@[simp] theorem State.alignToByte_cnt : (s.alignToByte).cnt = s.cnt := rfl
@[simp] theorem State.alignToByte_out : (s.alignToByte).out = s.out := rfl
@[simp] theorem State.alignToByte_outReady : (s.alignToByte).outReady = s.outReady := rfl
@[simp] theorem State.alignToByte_bdState : (s.alignToByte).bdState = s.bdState := rfl
@[simp] theorem State.alignToByte_final : (s.alignToByte).final = s.final := rfl
@[simp] theorem State.alignToByte_type : (s.alignToByte).type = s.type := rfl
@[simp] theorem State.alignToByte_nlit : (s.alignToByte).nlit = s.nlit := rfl
@[simp] theorem State.alignToByte_ndist : (s.alignToByte).ndist = s.ndist := rfl
@[simp] theorem State.alignToByte_nclen : (s.alignToByte).nclen = s.nclen := rfl
@[simp] theorem State.alignToByte_cll : (s.alignToByte).cll = s.cll := rfl
@[simp] theorem State.alignToByte_lenBuf : (s.alignToByte).lenBuf = s.lenBuf := rfl
@[simp] theorem State.alignToByte_lenCnt : (s.alignToByte).lenCnt = s.lenCnt := rfl
@[simp] theorem State.alignToByte_distPresent : (s.alignToByte).distPresent = s.distPresent := rfl
@[simp] theorem State.alignToByte_err : (s.alignToByte).err = s.err := rfl
@[simp] theorem State.alignToByte_phase : (s.alignToByte).phase = s.phase := rfl
@[simp] theorem State.alignToByte_port : (s.alignToByte).port = s.port := rfl
@[simp] theorem State.alignToByte_resp : (s.alignToByte).resp = s.resp := rfl
@[simp] theorem State.alignToByte_free : (s.alignToByte).free = s.free := rfl

/-! ### append -/

@[simp] theorem State.append_inp (b : Byte) : (s.append b).inp = s.inp := rfl
@[simp] theorem State.append_pos (b : Byte) : (s.append b).pos = s.pos := rfl
@[simp] theorem State.append_tblFixedLL (b : Byte) : (s.append b).tblFixedLL = s.tblFixedLL := rfl
@[simp] theorem State.append_tblFixedD (b : Byte) : (s.append b).tblFixedD = s.tblFixedD := rfl
@[simp] theorem State.append_tblClc (b : Byte) : (s.append b).tblClc = s.tblClc := rfl
@[simp] theorem State.append_tblDynLL (b : Byte) : (s.append b).tblDynLL = s.tblDynLL := rfl
@[simp] theorem State.append_tblDynD (b : Byte) : (s.append b).tblDynD = s.tblDynD := rfl
@[simp] theorem State.append_win (b : Byte) : (s.append b).win = Memory.write s.win s.cur b := rfl
@[simp] theorem State.append_winEra (b : Byte) : (s.append b).winEra = s.winEra := rfl
@[simp] theorem State.append_cur (b : Byte) : (s.append b).cur = (s.cur + 1) % Config.windowSize := rfl
@[simp] theorem State.append_cnt (b : Byte) : (s.append b).cnt = min (s.cnt + 1) Config.windowSize := rfl
@[simp] theorem State.append_out (b : Byte) : (s.append b).out = s.out := rfl
@[simp] theorem State.append_outReady (b : Byte) : (s.append b).outReady = s.outReady := rfl
@[simp] theorem State.append_bdState (b : Byte) : (s.append b).bdState = s.bdState := rfl
@[simp] theorem State.append_final (b : Byte) : (s.append b).final = s.final := rfl
@[simp] theorem State.append_type (b : Byte) : (s.append b).type = s.type := rfl
@[simp] theorem State.append_nlit (b : Byte) : (s.append b).nlit = s.nlit := rfl
@[simp] theorem State.append_ndist (b : Byte) : (s.append b).ndist = s.ndist := rfl
@[simp] theorem State.append_nclen (b : Byte) : (s.append b).nclen = s.nclen := rfl
@[simp] theorem State.append_cll (b : Byte) : (s.append b).cll = s.cll := rfl
@[simp] theorem State.append_lenBuf (b : Byte) : (s.append b).lenBuf = s.lenBuf := rfl
@[simp] theorem State.append_lenCnt (b : Byte) : (s.append b).lenCnt = s.lenCnt := rfl
@[simp] theorem State.append_distPresent (b : Byte) : (s.append b).distPresent = s.distPresent := rfl
@[simp] theorem State.append_err (b : Byte) : (s.append b).err = s.err := rfl
@[simp] theorem State.append_phase (b : Byte) : (s.append b).phase = s.phase := rfl
@[simp] theorem State.append_port (b : Byte) : (s.append b).port = s.port := rfl
@[simp] theorem State.append_resp (b : Byte) : (s.append b).resp = s.resp := rfl
@[simp] theorem State.append_free (b : Byte) : (s.append b).free = s.free := rfl

/-! ### emit -/

@[simp] theorem State.emit_inp (b : Byte) : (s.emit b).inp = s.inp := rfl
@[simp] theorem State.emit_pos (b : Byte) : (s.emit b).pos = s.pos := rfl
@[simp] theorem State.emit_tblFixedLL (b : Byte) : (s.emit b).tblFixedLL = s.tblFixedLL := rfl
@[simp] theorem State.emit_tblFixedD (b : Byte) : (s.emit b).tblFixedD = s.tblFixedD := rfl
@[simp] theorem State.emit_tblClc (b : Byte) : (s.emit b).tblClc = s.tblClc := rfl
@[simp] theorem State.emit_tblDynLL (b : Byte) : (s.emit b).tblDynLL = s.tblDynLL := rfl
@[simp] theorem State.emit_tblDynD (b : Byte) : (s.emit b).tblDynD = s.tblDynD := rfl
@[simp] theorem State.emit_win (b : Byte) : (s.emit b).win = Memory.write s.win s.cur b := rfl
@[simp] theorem State.emit_winEra (b : Byte) : (s.emit b).winEra = s.winEra := rfl
@[simp] theorem State.emit_cur (b : Byte) : (s.emit b).cur = (s.cur + 1) % Config.windowSize := rfl
@[simp] theorem State.emit_cnt (b : Byte) : (s.emit b).cnt = min (s.cnt + 1) Config.windowSize := rfl
@[simp] theorem State.emit_out (b : Byte) : (s.emit b).out = s.out ++ [b] := rfl
@[simp] theorem State.emit_outReady (b : Byte) : (s.emit b).outReady = s.outReady := rfl
@[simp] theorem State.emit_bdState (b : Byte) : (s.emit b).bdState = s.bdState := rfl
@[simp] theorem State.emit_final (b : Byte) : (s.emit b).final = s.final := rfl
@[simp] theorem State.emit_type (b : Byte) : (s.emit b).type = s.type := rfl
@[simp] theorem State.emit_nlit (b : Byte) : (s.emit b).nlit = s.nlit := rfl
@[simp] theorem State.emit_ndist (b : Byte) : (s.emit b).ndist = s.ndist := rfl
@[simp] theorem State.emit_nclen (b : Byte) : (s.emit b).nclen = s.nclen := rfl
@[simp] theorem State.emit_cll (b : Byte) : (s.emit b).cll = s.cll := rfl
@[simp] theorem State.emit_lenBuf (b : Byte) : (s.emit b).lenBuf = s.lenBuf := rfl
@[simp] theorem State.emit_lenCnt (b : Byte) : (s.emit b).lenCnt = s.lenCnt := rfl
@[simp] theorem State.emit_distPresent (b : Byte) : (s.emit b).distPresent = s.distPresent := rfl
@[simp] theorem State.emit_err (b : Byte) : (s.emit b).err = s.err := rfl
@[simp] theorem State.emit_phase (b : Byte) : (s.emit b).phase = s.phase := rfl
@[simp] theorem State.emit_port (b : Byte) : (s.emit b).port = s.port := rfl
@[simp] theorem State.emit_resp (b : Byte) : (s.emit b).resp = s.resp := rfl
@[simp] theorem State.emit_free (b : Byte) : (s.emit b).free = s.free := rfl

/-! ### pushLength -/

@[simp] theorem State.pushLength_inp (v : Nat) : (s.pushLength v).inp = s.inp := rfl
@[simp] theorem State.pushLength_pos (v : Nat) : (s.pushLength v).pos = s.pos := rfl
@[simp] theorem State.pushLength_tblFixedLL (v : Nat) : (s.pushLength v).tblFixedLL = s.tblFixedLL := rfl
@[simp] theorem State.pushLength_tblFixedD (v : Nat) : (s.pushLength v).tblFixedD = s.tblFixedD := rfl
@[simp] theorem State.pushLength_tblClc (v : Nat) : (s.pushLength v).tblClc = s.tblClc := rfl
@[simp] theorem State.pushLength_tblDynLL (v : Nat) : (s.pushLength v).tblDynLL = s.tblDynLL := rfl
@[simp] theorem State.pushLength_tblDynD (v : Nat) : (s.pushLength v).tblDynD = s.tblDynD := rfl
@[simp] theorem State.pushLength_win (v : Nat) : (s.pushLength v).win = s.win := rfl
@[simp] theorem State.pushLength_winEra (v : Nat) : (s.pushLength v).winEra = s.winEra := rfl
@[simp] theorem State.pushLength_cur (v : Nat) : (s.pushLength v).cur = s.cur := rfl
@[simp] theorem State.pushLength_cnt (v : Nat) : (s.pushLength v).cnt = s.cnt := rfl
@[simp] theorem State.pushLength_out (v : Nat) : (s.pushLength v).out = s.out := rfl
@[simp] theorem State.pushLength_outReady (v : Nat) : (s.pushLength v).outReady = s.outReady := rfl
@[simp] theorem State.pushLength_bdState (v : Nat) : (s.pushLength v).bdState = s.bdState := rfl
@[simp] theorem State.pushLength_final (v : Nat) : (s.pushLength v).final = s.final := rfl
@[simp] theorem State.pushLength_type (v : Nat) : (s.pushLength v).type = s.type := rfl
@[simp] theorem State.pushLength_nlit (v : Nat) : (s.pushLength v).nlit = s.nlit := rfl
@[simp] theorem State.pushLength_ndist (v : Nat) : (s.pushLength v).ndist = s.ndist := rfl
@[simp] theorem State.pushLength_nclen (v : Nat) : (s.pushLength v).nclen = s.nclen := rfl
@[simp] theorem State.pushLength_cll (v : Nat) : (s.pushLength v).cll = s.cll := rfl
@[simp] theorem State.pushLength_lenBuf (v : Nat) : (s.pushLength v).lenBuf = s.lenBuf.set s.lenCnt v := rfl
@[simp] theorem State.pushLength_lenCnt (v : Nat) : (s.pushLength v).lenCnt = s.lenCnt + 1 := rfl
@[simp] theorem State.pushLength_distPresent (v : Nat) : (s.pushLength v).distPresent = s.distPresent := rfl
@[simp] theorem State.pushLength_err (v : Nat) : (s.pushLength v).err = s.err := rfl
@[simp] theorem State.pushLength_phase (v : Nat) : (s.pushLength v).phase = s.phase := rfl
@[simp] theorem State.pushLength_port (v : Nat) : (s.pushLength v).port = s.port := rfl
@[simp] theorem State.pushLength_resp (v : Nat) : (s.pushLength v).resp = s.resp := rfl
@[simp] theorem State.pushLength_free (v : Nat) : (s.pushLength v).free = s.free := rfl

/-! ### unspecifyPreamble -/

@[simp] theorem State.unspecifyPreamble_inp : (s.unspecifyPreamble).inp = s.inp := rfl
@[simp] theorem State.unspecifyPreamble_pos : (s.unspecifyPreamble).pos = s.pos := rfl
@[simp] theorem State.unspecifyPreamble_tblFixedLL : (s.unspecifyPreamble).tblFixedLL = s.tblFixedLL := rfl
@[simp] theorem State.unspecifyPreamble_tblFixedD : (s.unspecifyPreamble).tblFixedD = s.tblFixedD := rfl
@[simp] theorem State.unspecifyPreamble_tblClc : (s.unspecifyPreamble).tblClc = s.freeTable 2 := rfl
@[simp] theorem State.unspecifyPreamble_tblDynLL : (s.unspecifyPreamble).tblDynLL = s.freeTable 3 := rfl
@[simp] theorem State.unspecifyPreamble_tblDynD : (s.unspecifyPreamble).tblDynD = s.freeTable 4 := rfl
@[simp] theorem State.unspecifyPreamble_win : (s.unspecifyPreamble).win = s.win := rfl
@[simp] theorem State.unspecifyPreamble_winEra : (s.unspecifyPreamble).winEra = s.winEra := rfl
@[simp] theorem State.unspecifyPreamble_cur : (s.unspecifyPreamble).cur = s.cur := rfl
@[simp] theorem State.unspecifyPreamble_cnt : (s.unspecifyPreamble).cnt = s.cnt := rfl
@[simp] theorem State.unspecifyPreamble_out : (s.unspecifyPreamble).out = s.out := rfl
@[simp] theorem State.unspecifyPreamble_outReady : (s.unspecifyPreamble).outReady = s.outReady := rfl
@[simp] theorem State.unspecifyPreamble_bdState : (s.unspecifyPreamble).bdState = s.bdState := rfl
@[simp] theorem State.unspecifyPreamble_final : (s.unspecifyPreamble).final = s.final := rfl
@[simp] theorem State.unspecifyPreamble_type : (s.unspecifyPreamble).type = s.type := rfl
@[simp] theorem State.unspecifyPreamble_nlit : (s.unspecifyPreamble).nlit = 257 + s.freeNat .nlit 0 % 32 := rfl
@[simp] theorem State.unspecifyPreamble_ndist : (s.unspecifyPreamble).ndist = 1 + s.freeNat .ndist 0 % 32 := rfl
@[simp] theorem State.unspecifyPreamble_nclen : (s.unspecifyPreamble).nclen = 4 + s.freeNat .nclen 0 % 16 := rfl
@[simp] theorem State.unspecifyPreamble_cll : (s.unspecifyPreamble).cll = s.freeList .cll Config.codeLengthSlots 8 := rfl
@[simp] theorem State.unspecifyPreamble_lenBuf : (s.unspecifyPreamble).lenBuf = s.freeList .lenBuf Config.lenBufSize 16 := rfl
@[simp] theorem State.unspecifyPreamble_lenCnt : (s.unspecifyPreamble).lenCnt = s.freeNat .lenCnt 0 % 321 := rfl
@[simp] theorem State.unspecifyPreamble_distPresent : (s.unspecifyPreamble).distPresent = s.distPresent := rfl
@[simp] theorem State.unspecifyPreamble_err : (s.unspecifyPreamble).err = s.err := rfl
@[simp] theorem State.unspecifyPreamble_phase : (s.unspecifyPreamble).phase = s.phase := rfl
@[simp] theorem State.unspecifyPreamble_port : (s.unspecifyPreamble).port = s.port := rfl
@[simp] theorem State.unspecifyPreamble_resp : (s.unspecifyPreamble).resp = s.resp := rfl
@[simp] theorem State.unspecifyPreamble_free : (s.unspecifyPreamble).free = s.free := rfl

/-! ### takeFault -/

@[simp] theorem State.takeFault_inp (k : FaultKind) : (s.takeFault k).inp = s.inp := rfl
@[simp] theorem State.takeFault_pos (k : FaultKind) : (s.takeFault k).pos = s.freeNat .pos 0 % (8 * s.inp.length + 1) := rfl
@[simp] theorem State.takeFault_tblFixedLL (k : FaultKind) : (s.takeFault k).tblFixedLL = s.tblFixedLL := rfl
@[simp] theorem State.takeFault_tblFixedD (k : FaultKind) : (s.takeFault k).tblFixedD = s.tblFixedD := rfl
@[simp] theorem State.takeFault_tblClc (k : FaultKind) : (s.takeFault k).tblClc = s.freeTable 2 := rfl
@[simp] theorem State.takeFault_tblDynLL (k : FaultKind) : (s.takeFault k).tblDynLL = s.freeTable 3 := rfl
@[simp] theorem State.takeFault_tblDynD (k : FaultKind) : (s.takeFault k).tblDynD = s.freeTable 4 := rfl
@[simp] theorem State.takeFault_win (k : FaultKind) : (s.takeFault k).win = [] := rfl
@[simp] theorem State.takeFault_winEra (k : FaultKind) : (s.takeFault k).winEra = s.free := rfl
@[simp] theorem State.takeFault_cur (k : FaultKind) : (s.takeFault k).cur = s.freeNat .cur 0 % Config.windowSize := rfl
@[simp] theorem State.takeFault_cnt (k : FaultKind) : (s.takeFault k).cnt = s.freeNat .cnt 0 % (Config.windowSize + 1) := rfl
@[simp] theorem State.takeFault_out (k : FaultKind) : (s.takeFault k).out = s.freeOut := rfl
@[simp] theorem State.takeFault_outReady (k : FaultKind) : (s.takeFault k).outReady = false := rfl
@[simp] theorem State.takeFault_bdState (k : FaultKind) : (s.takeFault k).bdState = .failed := rfl
@[simp] theorem State.takeFault_final (k : FaultKind) : (s.takeFault k).final = (s.freeNat .final 0 % 2 == 1) := rfl
@[simp] theorem State.takeFault_type (k : FaultKind) : (s.takeFault k).type = s.freeNat .type 0 % 4 := rfl
@[simp] theorem State.takeFault_nlit (k : FaultKind) : (s.takeFault k).nlit = 257 + s.freeNat .nlit 0 % 32 := rfl
@[simp] theorem State.takeFault_ndist (k : FaultKind) : (s.takeFault k).ndist = 1 + s.freeNat .ndist 0 % 32 := rfl
@[simp] theorem State.takeFault_nclen (k : FaultKind) : (s.takeFault k).nclen = 4 + s.freeNat .nclen 0 % 16 := rfl
@[simp] theorem State.takeFault_cll (k : FaultKind) : (s.takeFault k).cll = s.freeList .cll Config.codeLengthSlots 8 := rfl
@[simp] theorem State.takeFault_lenBuf (k : FaultKind) : (s.takeFault k).lenBuf = s.freeList .lenBuf Config.lenBufSize 16 := rfl
@[simp] theorem State.takeFault_lenCnt (k : FaultKind) : (s.takeFault k).lenCnt = s.freeNat .lenCnt 0 % 321 := rfl
@[simp] theorem State.takeFault_distPresent (k : FaultKind) : (s.takeFault k).distPresent = (s.freeNat .distPresent 0 % 2 == 1) := rfl
@[simp] theorem State.takeFault_err (k : FaultKind) : (s.takeFault k).err = some (s.err.getD k) := rfl
@[simp] theorem State.takeFault_phase (k : FaultKind) : (s.takeFault k).phase = .idle := rfl
@[simp] theorem State.takeFault_port (k : FaultKind) : (s.takeFault k).port = s.port := rfl
@[simp] theorem State.takeFault_resp (k : FaultKind) : (s.takeFault k).resp = some ⟨.fault, BitVec.ofNat 32 k.code⟩ := rfl
@[simp] theorem State.takeFault_free (k : FaultKind) : (s.takeFault k).free = s.free + 1 := rfl

/-! ### perCallInit -/

@[simp] theorem State.perCallInit_inp : (s.perCallInit).inp = s.inp := rfl
@[simp] theorem State.perCallInit_pos : (s.perCallInit).pos = 0 := rfl
@[simp] theorem State.perCallInit_tblFixedLL : (s.perCallInit).tblFixedLL = s.tblFixedLL := rfl
@[simp] theorem State.perCallInit_tblFixedD : (s.perCallInit).tblFixedD = s.tblFixedD := rfl
@[simp] theorem State.perCallInit_tblClc : (s.perCallInit).tblClc = s.tblClc := rfl
@[simp] theorem State.perCallInit_tblDynLL : (s.perCallInit).tblDynLL = s.tblDynLL := rfl
@[simp] theorem State.perCallInit_tblDynD : (s.perCallInit).tblDynD = s.tblDynD := rfl
@[simp] theorem State.perCallInit_win : (s.perCallInit).win = [] := rfl
@[simp] theorem State.perCallInit_winEra : (s.perCallInit).winEra = s.free := rfl
@[simp] theorem State.perCallInit_cur : (s.perCallInit).cur = 0 := rfl
@[simp] theorem State.perCallInit_cnt : (s.perCallInit).cnt = 0 := rfl
@[simp] theorem State.perCallInit_out : (s.perCallInit).out = [] := rfl
@[simp] theorem State.perCallInit_outReady : (s.perCallInit).outReady = false := rfl
@[simp] theorem State.perCallInit_bdState : (s.perCallInit).bdState = .readingBlockHeader := rfl
@[simp] theorem State.perCallInit_final : (s.perCallInit).final = false := rfl
@[simp] theorem State.perCallInit_type : (s.perCallInit).type = 0 := rfl
@[simp] theorem State.perCallInit_nlit : (s.perCallInit).nlit = s.nlit := rfl
@[simp] theorem State.perCallInit_ndist : (s.perCallInit).ndist = s.ndist := rfl
@[simp] theorem State.perCallInit_nclen : (s.perCallInit).nclen = s.nclen := rfl
@[simp] theorem State.perCallInit_cll : (s.perCallInit).cll = s.cll := rfl
@[simp] theorem State.perCallInit_lenBuf : (s.perCallInit).lenBuf = s.lenBuf := rfl
@[simp] theorem State.perCallInit_lenCnt : (s.perCallInit).lenCnt = s.lenCnt := rfl
@[simp] theorem State.perCallInit_distPresent : (s.perCallInit).distPresent = false := rfl
@[simp] theorem State.perCallInit_err : (s.perCallInit).err = s.err := rfl
@[simp] theorem State.perCallInit_phase : (s.perCallInit).phase = .header := rfl
@[simp] theorem State.perCallInit_port : (s.perCallInit).port = s.port := rfl
@[simp] theorem State.perCallInit_resp : (s.perCallInit).resp = s.resp := rfl
@[simp] theorem State.perCallInit_free : (s.perCallInit).free = s.free + 1 := rfl

/-! ### endRun -/

@[simp] theorem State.endRun_inp : (s.endRun).inp = s.inp := rfl
@[simp] theorem State.endRun_pos : (s.endRun).pos = (s.pos + 7) / 8 * 8 := rfl
@[simp] theorem State.endRun_tblFixedLL : (s.endRun).tblFixedLL = s.tblFixedLL := rfl
@[simp] theorem State.endRun_tblFixedD : (s.endRun).tblFixedD = s.tblFixedD := rfl
@[simp] theorem State.endRun_tblClc : (s.endRun).tblClc = s.freeTable 2 := rfl
@[simp] theorem State.endRun_tblDynLL : (s.endRun).tblDynLL = s.freeTable 3 := rfl
@[simp] theorem State.endRun_tblDynD : (s.endRun).tblDynD = s.freeTable 4 := rfl
@[simp] theorem State.endRun_win : (s.endRun).win = s.win := rfl
@[simp] theorem State.endRun_winEra : (s.endRun).winEra = s.winEra := rfl
@[simp] theorem State.endRun_cur : (s.endRun).cur = s.cur := rfl
@[simp] theorem State.endRun_cnt : (s.endRun).cnt = s.cnt := rfl
@[simp] theorem State.endRun_out : (s.endRun).out = s.out := rfl
@[simp] theorem State.endRun_outReady : (s.endRun).outReady = true := rfl
@[simp] theorem State.endRun_bdState : (s.endRun).bdState = .done := rfl
@[simp] theorem State.endRun_final : (s.endRun).final = s.final := rfl
@[simp] theorem State.endRun_type : (s.endRun).type = s.type := rfl
@[simp] theorem State.endRun_nlit : (s.endRun).nlit = 257 + s.freeNat .nlit 0 % 32 := rfl
@[simp] theorem State.endRun_ndist : (s.endRun).ndist = 1 + s.freeNat .ndist 0 % 32 := rfl
@[simp] theorem State.endRun_nclen : (s.endRun).nclen = 4 + s.freeNat .nclen 0 % 16 := rfl
@[simp] theorem State.endRun_cll : (s.endRun).cll = s.freeList .cll Config.codeLengthSlots 8 := rfl
@[simp] theorem State.endRun_lenBuf : (s.endRun).lenBuf = s.freeList .lenBuf Config.lenBufSize 16 := rfl
@[simp] theorem State.endRun_lenCnt : (s.endRun).lenCnt = s.freeNat .lenCnt 0 % 321 := rfl
@[simp] theorem State.endRun_distPresent : (s.endRun).distPresent = s.distPresent := rfl
@[simp] theorem State.endRun_err : (s.endRun).err = s.err := rfl
@[simp] theorem State.endRun_phase : (s.endRun).phase = .idle := rfl
@[simp] theorem State.endRun_port : (s.endRun).port = s.port := rfl
@[simp] theorem State.endRun_resp : (s.endRun).resp = some ⟨.ok, BitVec.ofNat 32 s.out.length⟩ := rfl
@[simp] theorem State.endRun_free : (s.endRun).free = s.free + 1 := rfl

/-! ### The fixed tables

They do not unfold by themselves: their construction is a long computation. -/

theorem buildOrEmpty_eq (lens : List Nat) : buildOrEmpty lens = (build lens).toOption := rfl

theorem fixedLLTable_eq : fixedLLTable = (build fixedLLLens).toOption := by
  unfold fixedLLTable; exact buildOrEmpty_eq _

theorem fixedDTable_eq : fixedDTable = (build fixedDLens).toOption := by
  unfold fixedDTable; exact buildOrEmpty_eq _

end Sys2Proof.Machine
end

