-- ==== Sys2Proof/Tests/Slice0.lean ====
section
/-! SUPPORT. Tests. Expected values come from the spec: the encodings of spec/30_encoding.md and spec/opcode_table.json,
the vectors of spec/95_test_vectors.md (their ids stand in the comments), or the rule named. At the end, a witness for
each statement that has hypotheses: concrete values that meet them together. -/

namespace Sys2Proof.Tests

open Sys2Proof.Machine

/-! ### Helpers -/

/-- A start state with the given input. -/
def base (bytes : List Byte) : State := State.reset.withHost bytes []

/-- A view of the next state, if there is one. -/
def after {α : Type} (r : Result) (view : State → α) : Option α :=
  match r with
  | .next t => some (view t)
  | _ => none

/-- `s` at a place of the block decoder. -/
def at' (s : State) (b : BdState) (p : Phase) : State := s.enter b p

/-- `w`, presented as an element of format `f`, decodes to `i`. -/
def decodesTo (f : Format) (w : Nat) (i : Instr) : Bool := decide (decode (.element f w) = .ok i)

/-- Each number of the list decodes to the instruction beside it. -/
def decodesAll (f : Format) (rows : List (Nat × Instr)) : Bool := rows.all fun r => decodesTo f r.1 r.2

/-! ### Well-formedness: an ill-formed term for each check -/

theorem test_wf_brRdu : (Instr.brRdu 2147483648).wf = false ∧ (Instr.brRdu (-2147483649)).wf = false := by decide
theorem test_wf_hcBld : (Instr.hcBld 2147483648 0 0).wf = false ∧ (Instr.hcBld 0 2147483648 0).wf = false ∧
    (Instr.hcBld 0 0 (-2147483649)).wf = false := by decide
theorem test_wf_hcDec : (Instr.hcDec 2147483648).wf = false := by decide
theorem test_wf_swApp : (Instr.swApp (-2147483649)).wf = false := by decide
theorem test_wf_swCpy : (Instr.swCpy 2147483648 0).wf = false ∧ (Instr.swCpy 1 2147483648).wf = false := by decide
theorem test_wf_lbSet : (Instr.lbSet 2147483648 0).wf = false ∧ (Instr.lbSet 0 2147483648).wf = false := by decide
theorem test_wf_csrRd : (Instr.csrRd 2147483648).wf = false := by decide
theorem test_wf_stored : (Instr.storedLen 65536).wf = false ∧ (Instr.storedNlen 65536).wf = false ∧
    (Instr.storedData 256).wf = false := by decide
theorem test_wf_lit : (Instr.lit 256).wf = false := by decide
theorem test_wf_counts : (Instr.preHlit 32).wf = false ∧ (Instr.preHdist 32).wf = false ∧
    (Instr.preHclen 16).wf = false := by decide
theorem test_wf_groups :
    ([.preCll0 8, .preCll1 8, .preCll2 8, .preCll3 8, .preCll4 8, .preCll5 8, .preCll6 8, .preCll7 8, .preCll8 8,
      .preCll9 8, .preCll10 8, .preCll11 8, .preCll12 8, .preCll13 8, .preCll14 8, .preCll15 8, .preCll16 8,
      .preCll17 8, .preCll18 8] : List Instr).all (fun i => !i.wf) = true := by decide
/-- Operands at the ends of their range, and operands outside a command's domain, are well formed (R61). -/
theorem test_wf_accepts : (Instr.swCpy (-2147483648) 2147483647).wf = true ∧ (Instr.lbSet 320 16).wf = true ∧
    (Instr.storedLen 65535).wf = true ∧ (Instr.preCll0 7).wf = true := by decide

/-! ### Decoding: every constructor, by a word written out from the spec -/

/-- The command words of R62, op first, then a, b, c as 32-bit two's-complement integers (R61). -/
theorem test_decode_commands : ([
   (⟨0b0000, 0, 0, 0⟩, .reset),
   (⟨0b0001, 0, 0, 0⟩, .brPos),
   (⟨0b0010, 0, 0, 0⟩, .brTry),
   (⟨0b0011, 0xFFFFFFFF, 0, 0⟩, .brRdu (-1)),
   (⟨0b0100, 4, 0, 0x140⟩, .hcBld 4 0 320),
   (⟨0b0101, 3, 0, 0⟩, .hcDec 3),
   (⟨0b0110, 0xFF, 0, 0⟩, .swApp 255),
   (⟨0b0111, 0x80000000, 0x7FFFFFFF, 0⟩, .swCpy (-2147483648) 2147483647),
   (⟨0b1000, 0, 0, 0⟩, .bdRun),
   (⟨0b1001, 0x13F, 0xF, 0⟩, .lbSet 319 15),
   (⟨0b1010, 5, 0, 0⟩, .csrRd 5),
   (⟨0b1011, 0, 0, 0⟩, .reserved11),
   (⟨0b1100, 0, 0, 0⟩, .reserved12),
   (⟨0b1101, 0, 0, 0⟩, .reserved13),
   (⟨0b1110, 0, 0, 0⟩, .reserved14),
   (⟨0b1111, 0, 0, 0⟩, .reserved15)] : List (Command × Instr)).all
    (fun r => decide (decode (.command r.1) = .ok r.2)) = true := by decide

/-- The 3 bits of a header as ReadUint(3): type in the upper two, FINAL in the lowest (R64). -/
theorem test_decode_headers : decodesAll .hdr
  [(0b000, .hdrStored false), (0b001, .hdrStored true), (0b010, .hdrFixed false), (0b011, .hdrFixed true),
   (0b100, .hdrDynamic false), (0b101, .hdrDynamic true), (0b110, .hdrReserved false), (0b111, .hdrReserved true)] = true := by decide

/-- The fields of a stored block: 16 bits, 16 bits, 8 bits; padding bits are not looked at (R66, R48). -/
theorem test_decode_stored :
    (decodesTo .storedPad 0b0000000 .storedPad && decodesTo .storedPad 0b1111111 .storedPad &&
      decodesTo .storedLen 0b1000000000000001 (.storedLen 32769) &&
      decodesTo .storedNlen 0b0111111111111110 (.storedNlen 32766) &&
      decodesTo .storedData 0b01001000 (.storedData 72)) = true := by decide

/-- The literal/length symbols as 9-bit values (R69). -/
theorem test_decode_literalLength_0 : decodesAll .llSymbol
  [(0b000000000, .lit 0), (0b011111111, .lit 255), (0b100000000, .eob), (0b100000001, .lsym257),
   (0b100000010, .lsym258), (0b100000011, .lsym259), (0b100000100, .lsym260), (0b100000101, .lsym261),
   (0b100000110, .lsym262), (0b100000111, .lsym263), (0b100001000, .lsym264), (0b100001001, .lsym265),
   (0b100001010, .lsym266), (0b100001011, .lsym267), (0b100001100, .lsym268), (0b100001101, .lsym269),
   (0b100001110, .lsym270), (0b100001111, .lsym271), (0b100010000, .lsym272), (0b100010001, .lsym273),
   (0b100010010, .lsym274), (0b100010011, .lsym275), (0b100010100, .lsym276), (0b100010101, .lsym277),
   (0b100010110, .lsym278), (0b100010111, .lsym279), (0b100011000, .lsym280), (0b100011001, .lsym281),
   (0b100011010, .lsym282), (0b100011011, .lsym283), (0b100011100, .lsym284), (0b100011101, .lsym285)] = true := by decide

/-- The literal/length symbols as 9-bit values (R69). -/
theorem test_decode_literalLength_1 : decodesAll .llSymbol
  [(0b100011110, .lsym286), (0b100011111, .lsym287)] = true := by decide

/-- The distance symbols as 5-bit values (R70). -/
theorem test_decode_distance : decodesAll .dSymbol
  [(0b00000, .dsym0), (0b00001, .dsym1), (0b00010, .dsym2), (0b00011, .dsym3), (0b00100, .dsym4), (0b00101, .dsym5),
   (0b00110, .dsym6), (0b00111, .dsym7), (0b01000, .dsym8), (0b01001, .dsym9), (0b01010, .dsym10),
   (0b01011, .dsym11), (0b01100, .dsym12), (0b01101, .dsym13), (0b01110, .dsym14), (0b01111, .dsym15),
   (0b10000, .dsym16), (0b10001, .dsym17), (0b10010, .dsym18), (0b10011, .dsym19), (0b10100, .dsym20),
   (0b10101, .dsym21), (0b10110, .dsym22), (0b10111, .dsym23), (0b11000, .dsym24), (0b11001, .dsym25),
   (0b11010, .dsym26), (0b11011, .dsym27), (0b11100, .dsym28), (0b11101, .dsym29), (0b11110, .dsym30),
   (0b11111, .dsym31)] = true := by decide

/-- The counts of a preamble: 5, 5 and 4 bits (R71). -/
theorem test_decode_counts :
    (decodesTo .preHlit 0b11111 (.preHlit 31) && decodesTo .preHdist 0b10000 (.preHdist 16) &&
      decodesTo .preHclen 0b1110 (.preHclen 14)) = true := by decide

/-- The 3-bit groups of a preamble, by their index (R71, R72). -/
theorem test_decode_groups :
    (decodesTo (.preCll 0) 0b110 (.preCll0 6) &&
      decodesTo (.preCll 1) 0b110 (.preCll1 6) &&
      decodesTo (.preCll 2) 0b110 (.preCll2 6) &&
      decodesTo (.preCll 3) 0b110 (.preCll3 6) &&
      decodesTo (.preCll 4) 0b110 (.preCll4 6) &&
      decodesTo (.preCll 5) 0b110 (.preCll5 6) &&
      decodesTo (.preCll 6) 0b110 (.preCll6 6) &&
      decodesTo (.preCll 7) 0b110 (.preCll7 6) &&
      decodesTo (.preCll 8) 0b110 (.preCll8 6) &&
      decodesTo (.preCll 9) 0b110 (.preCll9 6) &&
      decodesTo (.preCll 10) 0b110 (.preCll10 6) &&
      decodesTo (.preCll 11) 0b110 (.preCll11 6) &&
      decodesTo (.preCll 12) 0b110 (.preCll12 6) &&
      decodesTo (.preCll 13) 0b110 (.preCll13 6) &&
      decodesTo (.preCll 14) 0b110 (.preCll14 6) &&
      decodesTo (.preCll 15) 0b110 (.preCll15 6) &&
      decodesTo (.preCll 16) 0b110 (.preCll16 6) &&
      decodesTo (.preCll 17) 0b110 (.preCll17 6) &&
      decodesTo (.preCll 18) 0b110 (.preCll18 6)) = true := by decide

/-- The code-length symbols as 5-bit values (R73). -/
theorem test_decode_codeLength : decodesAll .clSymbol
  [(0b00000, .clsym0), (0b00001, .clsym1), (0b00010, .clsym2), (0b00011, .clsym3), (0b00100, .clsym4),
   (0b00101, .clsym5), (0b00110, .clsym6), (0b00111, .clsym7), (0b01000, .clsym8), (0b01001, .clsym9),
   (0b01010, .clsym10), (0b01011, .clsym11), (0b01100, .clsym12), (0b01101, .clsym13), (0b01110, .clsym14),
   (0b01111, .clsym15), (0b10000, .clsym16), (0b10001, .clsym17), (0b10010, .clsym18)] = true := by decide

/-- Codewords of the fixed literal/length table, each behind its sentinel 1 (R67, R74). -/
theorem test_decode_fixedLL_0 : decodesAll .fixedLL
  [(0b100110000, .fixedLit0), (0b100110001, .fixedLit1), (0b100110010, .fixedLit2), (0b100110011, .fixedLit3),
   (0b100110100, .fixedLit4), (0b100110101, .fixedLit5), (0b100110110, .fixedLit6), (0b100110111, .fixedLit7),
   (0b100111000, .fixedLit8), (0b100111001, .fixedLit9), (0b100111010, .fixedLit10), (0b100111011, .fixedLit11),
   (0b100111100, .fixedLit12), (0b100111101, .fixedLit13), (0b100111110, .fixedLit14), (0b100111111, .fixedLit15),
   (0b101000000, .fixedLit16), (0b101000001, .fixedLit17), (0b101000010, .fixedLit18), (0b101000011, .fixedLit19),
   (0b101000100, .fixedLit20), (0b101000101, .fixedLit21), (0b101000110, .fixedLit22), (0b101000111, .fixedLit23),
   (0b101001000, .fixedLit24), (0b101001001, .fixedLit25), (0b101001010, .fixedLit26), (0b101001011, .fixedLit27),
   (0b101001100, .fixedLit28), (0b101001101, .fixedLit29), (0b101001110, .fixedLit30), (0b101001111, .fixedLit31)] = true := by decide

/-- Codewords of the fixed literal/length table, each behind its sentinel 1 (R67, R74). -/
theorem test_decode_fixedLL_1 : decodesAll .fixedLL
  [(0b101010000, .fixedLit32), (0b101010001, .fixedLit33), (0b101010010, .fixedLit34), (0b101010011, .fixedLit35),
   (0b101010100, .fixedLit36), (0b101010101, .fixedLit37), (0b101010110, .fixedLit38), (0b101010111, .fixedLit39),
   (0b101011000, .fixedLit40), (0b101011001, .fixedLit41), (0b101011010, .fixedLit42), (0b101011011, .fixedLit43),
   (0b101011100, .fixedLit44), (0b101011101, .fixedLit45), (0b101011110, .fixedLit46), (0b101011111, .fixedLit47),
   (0b101100000, .fixedLit48), (0b101100001, .fixedLit49), (0b101100010, .fixedLit50), (0b101100011, .fixedLit51),
   (0b101100100, .fixedLit52), (0b101100101, .fixedLit53), (0b101100110, .fixedLit54), (0b101100111, .fixedLit55),
   (0b101101000, .fixedLit56), (0b101101001, .fixedLit57), (0b101101010, .fixedLit58), (0b101101011, .fixedLit59),
   (0b101101100, .fixedLit60), (0b101101101, .fixedLit61), (0b101101110, .fixedLit62), (0b101101111, .fixedLit63)] = true := by decide

/-- Codewords of the fixed literal/length table, each behind its sentinel 1 (R67, R74). -/
theorem test_decode_fixedLL_2 : decodesAll .fixedLL
  [(0b101110000, .fixedLit64), (0b101110001, .fixedLit65), (0b101110010, .fixedLit66), (0b101110011, .fixedLit67),
   (0b101110100, .fixedLit68), (0b101110101, .fixedLit69), (0b101110110, .fixedLit70), (0b101110111, .fixedLit71),
   (0b101111000, .fixedLit72), (0b101111001, .fixedLit73), (0b101111010, .fixedLit74), (0b101111011, .fixedLit75),
   (0b101111100, .fixedLit76), (0b101111101, .fixedLit77), (0b101111110, .fixedLit78), (0b101111111, .fixedLit79),
   (0b110000000, .fixedLit80), (0b110000001, .fixedLit81), (0b110000010, .fixedLit82), (0b110000011, .fixedLit83),
   (0b110000100, .fixedLit84), (0b110000101, .fixedLit85), (0b110000110, .fixedLit86), (0b110000111, .fixedLit87),
   (0b110001000, .fixedLit88), (0b110001001, .fixedLit89), (0b110001010, .fixedLit90), (0b110001011, .fixedLit91),
   (0b110001100, .fixedLit92), (0b110001101, .fixedLit93), (0b110001110, .fixedLit94), (0b110001111, .fixedLit95)] = true := by decide

/-- Codewords of the fixed literal/length table, each behind its sentinel 1 (R67, R74). -/
theorem test_decode_fixedLL_3 : decodesAll .fixedLL
  [(0b110010000, .fixedLit96), (0b110010001, .fixedLit97), (0b110010010, .fixedLit98), (0b110010011, .fixedLit99),
   (0b110010100, .fixedLit100), (0b110010101, .fixedLit101), (0b110010110, .fixedLit102),
   (0b110010111, .fixedLit103), (0b110011000, .fixedLit104), (0b110011001, .fixedLit105),
   (0b110011010, .fixedLit106), (0b110011011, .fixedLit107), (0b110011100, .fixedLit108),
   (0b110011101, .fixedLit109), (0b110011110, .fixedLit110), (0b110011111, .fixedLit111),
   (0b110100000, .fixedLit112), (0b110100001, .fixedLit113), (0b110100010, .fixedLit114),
   (0b110100011, .fixedLit115), (0b110100100, .fixedLit116), (0b110100101, .fixedLit117),
   (0b110100110, .fixedLit118), (0b110100111, .fixedLit119), (0b110101000, .fixedLit120),
   (0b110101001, .fixedLit121), (0b110101010, .fixedLit122), (0b110101011, .fixedLit123),
   (0b110101100, .fixedLit124), (0b110101101, .fixedLit125), (0b110101110, .fixedLit126),
   (0b110101111, .fixedLit127)] = true := by decide

/-- Codewords of the fixed literal/length table, each behind its sentinel 1 (R67, R74). -/
theorem test_decode_fixedLL_4 : decodesAll .fixedLL
  [(0b110110000, .fixedLit128), (0b110110001, .fixedLit129), (0b110110010, .fixedLit130),
   (0b110110011, .fixedLit131), (0b110110100, .fixedLit132), (0b110110101, .fixedLit133),
   (0b110110110, .fixedLit134), (0b110110111, .fixedLit135), (0b110111000, .fixedLit136),
   (0b110111001, .fixedLit137), (0b110111010, .fixedLit138), (0b110111011, .fixedLit139),
   (0b110111100, .fixedLit140), (0b110111101, .fixedLit141), (0b110111110, .fixedLit142),
   (0b110111111, .fixedLit143), (0b1110010000, .fixedLit144), (0b1110010001, .fixedLit145),
   (0b1110010010, .fixedLit146), (0b1110010011, .fixedLit147), (0b1110010100, .fixedLit148),
   (0b1110010101, .fixedLit149), (0b1110010110, .fixedLit150), (0b1110010111, .fixedLit151),
   (0b1110011000, .fixedLit152), (0b1110011001, .fixedLit153), (0b1110011010, .fixedLit154),
   (0b1110011011, .fixedLit155), (0b1110011100, .fixedLit156), (0b1110011101, .fixedLit157),
   (0b1110011110, .fixedLit158), (0b1110011111, .fixedLit159)] = true := by decide

/-- Codewords of the fixed literal/length table, each behind its sentinel 1 (R67, R74). -/
theorem test_decode_fixedLL_5 : decodesAll .fixedLL
  [(0b1110100000, .fixedLit160), (0b1110100001, .fixedLit161), (0b1110100010, .fixedLit162),
   (0b1110100011, .fixedLit163), (0b1110100100, .fixedLit164), (0b1110100101, .fixedLit165),
   (0b1110100110, .fixedLit166), (0b1110100111, .fixedLit167), (0b1110101000, .fixedLit168),
   (0b1110101001, .fixedLit169), (0b1110101010, .fixedLit170), (0b1110101011, .fixedLit171),
   (0b1110101100, .fixedLit172), (0b1110101101, .fixedLit173), (0b1110101110, .fixedLit174),
   (0b1110101111, .fixedLit175), (0b1110110000, .fixedLit176), (0b1110110001, .fixedLit177),
   (0b1110110010, .fixedLit178), (0b1110110011, .fixedLit179), (0b1110110100, .fixedLit180),
   (0b1110110101, .fixedLit181), (0b1110110110, .fixedLit182), (0b1110110111, .fixedLit183),
   (0b1110111000, .fixedLit184), (0b1110111001, .fixedLit185), (0b1110111010, .fixedLit186),
   (0b1110111011, .fixedLit187), (0b1110111100, .fixedLit188), (0b1110111101, .fixedLit189),
   (0b1110111110, .fixedLit190), (0b1110111111, .fixedLit191)] = true := by decide

/-- Codewords of the fixed literal/length table, each behind its sentinel 1 (R67, R74). -/
theorem test_decode_fixedLL_6 : decodesAll .fixedLL
  [(0b1111000000, .fixedLit192), (0b1111000001, .fixedLit193), (0b1111000010, .fixedLit194),
   (0b1111000011, .fixedLit195), (0b1111000100, .fixedLit196), (0b1111000101, .fixedLit197),
   (0b1111000110, .fixedLit198), (0b1111000111, .fixedLit199), (0b1111001000, .fixedLit200),
   (0b1111001001, .fixedLit201), (0b1111001010, .fixedLit202), (0b1111001011, .fixedLit203),
   (0b1111001100, .fixedLit204), (0b1111001101, .fixedLit205), (0b1111001110, .fixedLit206),
   (0b1111001111, .fixedLit207), (0b1111010000, .fixedLit208), (0b1111010001, .fixedLit209),
   (0b1111010010, .fixedLit210), (0b1111010011, .fixedLit211), (0b1111010100, .fixedLit212),
   (0b1111010101, .fixedLit213), (0b1111010110, .fixedLit214), (0b1111010111, .fixedLit215),
   (0b1111011000, .fixedLit216), (0b1111011001, .fixedLit217), (0b1111011010, .fixedLit218),
   (0b1111011011, .fixedLit219), (0b1111011100, .fixedLit220), (0b1111011101, .fixedLit221),
   (0b1111011110, .fixedLit222), (0b1111011111, .fixedLit223)] = true := by decide

/-- Codewords of the fixed literal/length table, each behind its sentinel 1 (R67, R74). -/
theorem test_decode_fixedLL_7 : decodesAll .fixedLL
  [(0b1111100000, .fixedLit224), (0b1111100001, .fixedLit225), (0b1111100010, .fixedLit226),
   (0b1111100011, .fixedLit227), (0b1111100100, .fixedLit228), (0b1111100101, .fixedLit229),
   (0b1111100110, .fixedLit230), (0b1111100111, .fixedLit231), (0b1111101000, .fixedLit232),
   (0b1111101001, .fixedLit233), (0b1111101010, .fixedLit234), (0b1111101011, .fixedLit235),
   (0b1111101100, .fixedLit236), (0b1111101101, .fixedLit237), (0b1111101110, .fixedLit238),
   (0b1111101111, .fixedLit239), (0b1111110000, .fixedLit240), (0b1111110001, .fixedLit241),
   (0b1111110010, .fixedLit242), (0b1111110011, .fixedLit243), (0b1111110100, .fixedLit244),
   (0b1111110101, .fixedLit245), (0b1111110110, .fixedLit246), (0b1111110111, .fixedLit247),
   (0b1111111000, .fixedLit248), (0b1111111001, .fixedLit249), (0b1111111010, .fixedLit250),
   (0b1111111011, .fixedLit251), (0b1111111100, .fixedLit252), (0b1111111101, .fixedLit253),
   (0b1111111110, .fixedLit254), (0b1111111111, .fixedLit255)] = true := by decide

/-- Codewords of the fixed literal/length table, each behind its sentinel 1 (R67, R74). -/
theorem test_decode_fixedLL_8 : decodesAll .fixedLL
  [(0b10000000, .fixedEob), (0b10000001, .fixedLsym257), (0b10000010, .fixedLsym258), (0b10000011, .fixedLsym259),
   (0b10000100, .fixedLsym260), (0b10000101, .fixedLsym261), (0b10000110, .fixedLsym262),
   (0b10000111, .fixedLsym263), (0b10001000, .fixedLsym264), (0b10001001, .fixedLsym265),
   (0b10001010, .fixedLsym266), (0b10001011, .fixedLsym267), (0b10001100, .fixedLsym268),
   (0b10001101, .fixedLsym269), (0b10001110, .fixedLsym270), (0b10001111, .fixedLsym271),
   (0b10010000, .fixedLsym272), (0b10010001, .fixedLsym273), (0b10010010, .fixedLsym274),
   (0b10010011, .fixedLsym275), (0b10010100, .fixedLsym276), (0b10010101, .fixedLsym277),
   (0b10010110, .fixedLsym278), (0b10010111, .fixedLsym279), (0b111000000, .fixedLsym280),
   (0b111000001, .fixedLsym281), (0b111000010, .fixedLsym282), (0b111000011, .fixedLsym283),
   (0b111000100, .fixedLsym284), (0b111000101, .fixedLsym285), (0b111000110, .fixedLsym286),
   (0b111000111, .fixedLsym287)] = true := by decide

/-- Codewords of the fixed distance table, each behind its sentinel 1 (R67, R74). -/
theorem test_decode_fixedD : decodesAll .fixedD
  [(0b100000, .fixedDsym0), (0b100001, .fixedDsym1), (0b100010, .fixedDsym2), (0b100011, .fixedDsym3),
   (0b100100, .fixedDsym4), (0b100101, .fixedDsym5), (0b100110, .fixedDsym6), (0b100111, .fixedDsym7),
   (0b101000, .fixedDsym8), (0b101001, .fixedDsym9), (0b101010, .fixedDsym10), (0b101011, .fixedDsym11),
   (0b101100, .fixedDsym12), (0b101101, .fixedDsym13), (0b101110, .fixedDsym14), (0b101111, .fixedDsym15),
   (0b110000, .fixedDsym16), (0b110001, .fixedDsym17), (0b110010, .fixedDsym18), (0b110011, .fixedDsym19),
   (0b110100, .fixedDsym20), (0b110101, .fixedDsym21), (0b110110, .fixedDsym22), (0b110111, .fixedDsym23),
   (0b111000, .fixedDsym24), (0b111001, .fixedDsym25), (0b111010, .fixedDsym26), (0b111011, .fixedDsym27),
   (0b111100, .fixedDsym28), (0b111101, .fixedDsym29), (0b111110, .fixedDsym30), (0b111111, .fixedDsym31)] = true := by decide

/-! ### Meanings -/

/-- B11. -/
theorem test_brPos : after (exec .brPos { base [0xA5] with pos := 3 }) (fun t => (t.resp, t.pos)) =
    some (some ⟨.ok, 3⟩, 3) := by decide
/-- B13. -/
theorem test_brTry : after (exec .brTry (base [0xA5])) (fun t => (t.resp, t.pos)) = some (some ⟨.ok, 1⟩, 1) := by decide
/-- B11: NONE at the end of input. -/
theorem test_brTry_end : after (exec .brTry { base [0xA5] with pos := 8 }) (fun t => (t.resp, t.pos)) =
    some (some ⟨.none, 0⟩, 8) := by decide
/-- B1, its second read: a field across a byte boundary. -/
theorem test_brRdu : after (exec (.brRdu 8) { base [0xB5, 0x01] with pos := 4 }) (fun t => (t.resp, t.pos)) =
    some (some ⟨.ok, 27⟩, 12) := by decide
/-- B10: the count is tested first. -/
theorem test_brRdu_badCount : after (exec (.brRdu 32) (base [])) (fun t => (t.resp, t.errCode, t.bdState)) =
    some (some ⟨.fault, 2⟩, 2, .failed) := by decide
/-- H4 from LENBUF. -/
theorem test_hcBld : after (exec (.hcBld 2 0 4) { base [] with lenBuf := [2, 1, 3, 3] ++ List.replicate 316 0 })
    (fun t => (t.resp, t.tblClc)) = some (some ⟨.ok, 0⟩, some [(2, 1), (6, 0), (14, 2), (15, 3)]) := by decide
/-- H2 from LENBUF. -/
theorem test_hcBld_overfull :
    after (exec (.hcBld 4 0 3) { base [] with lenBuf := [1, 1, 1] ++ List.replicate 317 0 }) (fun t => t.resp) =
      some (some ⟨.fault, 3⟩) := by decide
/-- H20. -/
theorem test_hcDec : after (exec (.hcDec 2) { base [0x3B] with tblClc := some [(2, 1), (6, 0), (14, 2), (15, 3)] })
    (fun t => (t.resp, t.pos)) = some (some ⟨.ok, 2⟩, 3) := by decide
/-- H27. -/
theorem test_hcDec_empty : after (exec (.hcDec 2) (base [0x3B])) (fun t => (t.resp, t.pos)) =
    some (some ⟨.refused, 0⟩, 0) := by decide
/-- R114. -/
theorem test_lbSet : after (exec (.lbSet 319 15) (base [])) (fun t => (t.resp, t.lenBuf[319]?, t.lenBuf[318]?)) =
    some (some ⟨.ok, 0⟩, some 15, some 0) := by decide
/-- H28. -/
theorem test_lbSet_refused : after (exec (.lbSet 0 16) (base [])) (fun t => (t.resp, t.lenBuf[0]?)) =
    some (some ⟨.refused, 0⟩, some 0) := by decide
/-- R130: at the end of the ring the cursor wraps and CNT stays. -/
theorem test_swApp : after (exec (.swApp 200) { base [] with cur := 32767, cnt := 32768 })
    (fun t => (t.win, t.cur, t.cnt, t.out)) = some ([(32767, 200)], 0, 32768, []) := by decide
/-- S16. -/
theorem test_swApp_refused : after (exec (.swApp 256) (base [])) (fun t => (t.resp, t.cnt)) =
    some (some ⟨.refused, 0⟩, 0) := by decide
/-- S1, DOC00's example. -/
theorem test_swCpy : after (exec (.swCpy 3 7) { base [] with win := [(0, 1), (1, 2), (2, 3)], cur := 3, cnt := 3 })
    (fun t => (t.out, t.cur, t.cnt)) = some ([1, 2, 3, 1, 2, 3, 1], 10, 10) := by decide
/-- R212: SW.CPY writes OUT, so the host may no longer read the result of the run before. -/
theorem test_swCpy_endsTheRight : after (exec (.swCpy 1 0) { base [] with
      win := [(0, 1)], cur := 1, cnt := 1, out := [1], outReady := true, bdState := .done }) (fun t => t.hostReadOut) =
    some none := by decide
/-- R63: the numbers of the status. -/
theorem test_status_numbers : [Status.ok, .none, .fault, .refused].map Status.code = [0b00, 0b01, 0b10, 0b11] := by decide
/-- S10: the distance is tested first. -/
theorem test_swCpy_badDistance : after (exec (.swCpy 0 (-1)) { base [] with win := [(0, 1)], cur := 1, cnt := 1 })
    (fun t => t.resp) = some (some ⟨.fault, 9⟩) := by decide
/-- R27 on the reset state with one byte of input: only ALIGNED is set. -/
theorem test_csrRd : after (exec (.csrRd 0) (base [0x87])) (fun t => t.resp) = some (some ⟨.ok, 8192⟩) := by decide
/-- R27: NLIT 257, NDIST 1, NCLEN 4, LEN_CNT 0. -/
theorem test_csrRd_dyn : after (exec (.csrRd 5) (base [])) (fun t => t.resp) =
    some (some ⟨.ok, 257 + 512 * 1 + 32768 * 4⟩) := by decide
/-- R260: RESET leaves FAILED. -/
theorem test_reset : after (exec .reset { base [0x87] with bdState := .failed, err := some .invalidLength, pos := 5 })
    (fun t => (t.bdState, t.errCode, t.pos, t.resp)) = some (.readingBlockHeader, 0, 0, some ⟨.ok, 0⟩) := by decide
/-- K4: a stored block of length 0 and two bytes that are not part of the stream. -/
theorem test_bdRun_stored : after (exec .bdRun (base [0x01, 0x00, 0x00, 0xFF, 0xFF, 0xDE, 0xAD]))
    (fun t => (t.resp, t.hostReadOut, t.pos, t.bdState)) = some (some ⟨.ok, 0⟩, some [], 40, .done) := by decide
/-- K2: the shortest fixed stream. -/
theorem test_bdRun_fixed : after (exec .bdRun (base [0x03, 0x00]))
    (fun t => (t.resp, t.hostReadOut, t.pos, t.bdState)) = some (some ⟨.ok, 0⟩, some [], 16, .done) := by
  decide +kernel
/-- R244: the reserved codes. -/
theorem test_reserved : ([.reserved11, .reserved12, .reserved13, .reserved14, .reserved15] : List Instr).all
    (fun i => decide (after (exec i (base [])) (fun t => (t.resp, t.pos)) = some (some ⟨.refused, 0⟩, 0))) = true := by
  decide

/-- R151, R154. -/
theorem test_hdrFixed : after (exec (.hdrFixed true) (at' (base []) .readingBlockHeader .header))
    (fun t => (t.final, t.type, t.distPresent, t.bdState, t.phase)) =
      some (true, 1, true, .fixedHuffmanBlock, .symbol) := by decide
/-- R152, R226. -/
theorem test_hdrReserved : after (exec (.hdrReserved false) (at' (base []) .readingBlockHeader .header))
    (fun t => (t.bdState, t.errCode)) = some (.failed, 5) := by decide
/-- R94: from bit 3 to bit 8. -/
theorem test_storedPad : after (exec .storedPad { at' (base [0xF9, 0]) .storedBlock .storedPad with pos := 3 })
    (fun t => (t.pos, t.phase)) = some (8, .storedLen) := by decide
/-- Section 1.3: LEN = 5, NLEN = 0xFFFA. -/
theorem test_storedNlen : after (exec (.storedNlen 0xFFFA) (at' (base []) .storedBlock (.storedNlen 5)))
    (fun t => t.phase) = some (.storedData 5) := by decide
/-- Section 1.3: one bit of NLEN flipped. -/
theorem test_storedNlen_mismatch : after (exec (.storedNlen 0xFFFB) (at' (base []) .storedBlock (.storedNlen 5)))
    (fun t => t.errCode) = some 6 := by decide
/-- R153: the last byte of a block that is not the final one. -/
theorem test_storedData : after (exec (.storedData 0x6F) (at' (base []) .storedBlock (.storedData 1)))
    (fun t => (t.out, t.win, t.bdState, t.phase)) = some ([0x6F], [(0, 0x6F)], .readingBlockHeader, .header) := by decide

/-- R156. -/
theorem test_lit : after (exec (.lit 255) (at' (base []) .dynamicHuffmanBlock .symbol))
    (fun t => (t.out, t.win, t.cur, t.cnt, t.phase)) = some ([255], [(0, 255)], 1, 1, .symbol) := by decide
/-- R157 in the final block: POS is aligned, the run ends. -/
theorem test_eob : after (exec .eob { at' (base [0, 0]) .dynamicHuffmanBlock .symbol with final := true, pos := 9 })
    (fun t => (t.pos, t.bdState, t.resp, t.hostReadOut)) = some (16, .done, some ⟨.ok, 0⟩, some []) := by decide

/-- A Huffman block with a distance code, before a symbol. -/
def inBlock (bytes : List Byte) (b : BdState) : State := { at' (base bytes) b .symbol with distPresent := true }

/-- The run length after a length symbol. -/
def runOf (i : Instr) (s : State) : Option Nat :=
  match exec i s with
  | .next t => (match t.phase with
    | .distance run => some run
    | _ => none)
  | _ => none

/-- R69, the least run length of each length symbol: extra bits all 0. -/
theorem test_lengths_least :
    ([.lsym257, .lsym258, .lsym259, .lsym260, .lsym261, .lsym262, .lsym263, .lsym264, .lsym265, .lsym266, .lsym267,
      .lsym268, .lsym269, .lsym270, .lsym271, .lsym272, .lsym273, .lsym274, .lsym275, .lsym276, .lsym277, .lsym278,
      .lsym279, .lsym280, .lsym281, .lsym282, .lsym283, .lsym284, .lsym285] : List Instr).map
        (fun i => runOf i (inBlock [0] .dynamicHuffmanBlock)) =
      ([3, 4, 5, 6, 7, 8, 9, 10, 11, 13, 15, 17, 19, 23, 27, 31, 35, 43, 51, 59, 67, 83, 99, 115, 131, 163, 195, 227,
        258] : List Nat).map some := by decide
/-- R69, the greatest: extra bits all 1. -/
theorem test_lengths_greatest :
    ([.lsym264, .lsym265, .lsym268, .lsym269, .lsym272, .lsym276, .lsym280, .lsym284] : List Instr).map
        (fun i => runOf i (inBlock [0xFF] .dynamicHuffmanBlock)) =
      ([10, 12, 18, 22, 34, 66, 130, 258] : List Nat).map some := by decide
/-- R229. -/
theorem test_lengths_reserved : ([.lsym286, .lsym287] : List Instr).all
    (fun i => decide (after (exec i (inBlock [] .dynamicHuffmanBlock)) (fun t => t.errCode) = some 8)) = true := by decide

/-- The distance a distance symbol computes, on input bits all 0 or all 1. -/
def distancesOn (b : Byte) : List (Option Nat) :=
  (List.range 30).map fun sym =>
    match (base [b, b]).distanceOf sym with
    | .ok (d, _) => some d
    | .error _ => none

/-- R70, the least distance of each symbol. -/
theorem test_distances_least : distancesOn 0 =
    ([1, 2, 3, 4, 5, 7, 9, 13, 17, 25, 33, 49, 65, 97, 129, 193, 257, 385, 513, 769, 1025, 1537, 2049, 3073, 4097, 6145,
      8193, 12289, 16385, 24577] : List Nat).map some := by decide
/-- R70, the greatest distance of each symbol. -/
theorem test_distances_greatest : distancesOn 255 =
    ([1, 2, 3, 4, 6, 8, 12, 16, 24, 32, 48, 64, 96, 128, 192, 256, 384, 512, 768, 1024, 1536, 2048, 3072, 4096, 6144,
      8192, 12288, 16384, 24576, 32768] : List Nat).map some := by decide
/-- R158: distance 2, length 3, over the bytes 97, 98 (the copy of program P2 cut to 3). -/
theorem test_dsym1 : after (exec .dsym1 { at' (base []) .dynamicHuffmanBlock (.distance 3) with
      win := [(0, 97), (1, 98)], cur := 2, cnt := 2, out := [97, 98] })
    (fun t => (t.out, t.cur, t.cnt, t.phase)) = some ([97, 98, 97, 98, 97], 5, 5, .symbol) := by decide
/-- R230, R231: a distance beyond CNT, and the reserved symbols. -/
theorem test_dsym_faults :
    ([.dsym2, .dsym30, .dsym31] : List Instr).map (fun i =>
      after (exec i { at' (base []) .dynamicHuffmanBlock (.distance 3) with cur := 2, cnt := 2 }) (fun t => t.errCode)) =
      [some 9, some 10, some 10] := by decide

/-- R190. -/
theorem test_counts :
    (after (exec (.preHlit 31) (at' (base []) .dynamicHuffmanBlock .preHlit)) (fun t => t.nlit),
      after (exec (.preHdist 31) (at' (base []) .dynamicHuffmanBlock .preHdist)) (fun t => t.ndist),
      after (exec (.preHclen 15) (at' (base []) .dynamicHuffmanBlock .preHclen)) (fun t => (t.nclen, t.phase))) =
      (some 288, some 32, some (19, .preCll 0)) := by decide
/-- R191, R72: the first group goes to slot 16, the fifth to slot 8. -/
theorem test_groups :
    (after (exec (.preCll0 7) (at' (base []) .dynamicHuffmanBlock (.preCll 0))) (fun t => (t.cll[16]?, t.phase)),
      after (exec (.preCll4 5) { at' (base []) .dynamicHuffmanBlock (.preCll 4) with nclen := 6 })
        (fun t => (t.cll[8]?, t.phase))) =
      (some (some 7, .preCll 1), some (some 5, .preCll 5)) := by decide
/-- R192: after the last group the code-length code is built; here it is underfull. -/
theorem test_groups_underfull :
    after (exec (.preCll3 1) (at' (base []) .dynamicHuffmanBlock (.preCll 3))) (fun t => t.errCode) = some 4 := by decide

/-- In a preamble with room for `total - 1` lengths beyond NDIST = 1. -/
def inPreamble (bytes : List Byte) (count : Nat) : State :=
  { at' (base bytes) .dynamicHuffmanBlock .codeLength with lenCnt := count, lenBuf := List.replicate 320 9 }

/-- Three lengths 2 at symbols 253 to 255, and `ndist` distances; the list has 256 or more entries already. -/
def nearSplit (bytes : List Byte) (ndist count : Nat) : State :=
  { at' (base bytes) .dynamicHuffmanBlock .codeLength with
    ndist := ndist, lenCnt := count, lenBuf := List.replicate 253 0 ++ [2, 2, 2, 2] ++ List.replicate 63 9 }

/-- R193 to R195: a repeat 16 of 3 + 2 lengths 2 from list index 256 on crosses the split (L[256], then D[0..3]) and
completes the list, from which both tables are built. -/
theorem test_clsym16_completes : after (exec .clsym16 (nearSplit [0x02] 4 256))
    (fun t => (t.tblDynLL, t.tblDynD, t.distPresent, t.phase, t.pos)) =
    some (some [(4, 253), (5, 254), (6, 255), (7, 256)], some [(4, 0), (5, 1), (6, 2), (7, 3)], true, .symbol, 2) := by
  decide +kernel
/-- R193: a length of its own. -/
theorem test_clsym5 : after (exec .clsym5 (inPreamble [] 2)) (fun t => (t.lenCnt, t.lenBuf[2]?, t.phase)) =
    some (3, some 5, .codeLength) := by decide
/-- R193: symbols 16, 17 and 18 with extra bits all 1 repeat 6, 10 and 138 times. -/
theorem test_clsym_repeats :
    ([.clsym16, .clsym17, .clsym18] : List Instr).map (fun i =>
      after (exec i (inPreamble [0xFF] 1)) (fun t => (t.lenCnt, t.lenBuf[6]?, t.pos))) =
      [some (7, some 9, 2), some (11, some 0, 3), some (139, some 0, 7)] := by decide +kernel
/-- R233, R234: symbol 16 on an empty list; a repeat past NLIT + NDIST = 258. -/
theorem test_clsym_faults :
    (after (exec .clsym16 (inPreamble [] 0)) (fun t => t.errCode),
      after (exec .clsym17 (inPreamble [0] 256)) (fun t => t.errCode)) = (some 12, some 13) := by decide

/-- R74: the codeword of literal 97 in a fixed block. -/
theorem test_fixedLit97 : after (exec .fixedLit97 (inBlock [] .fixedHuffmanBlock)) (fun t => (t.out, t.phase)) =
    some ([97], .symbol) := by decide
/-- R74: a length and a distance codeword of a fixed block. -/
theorem test_fixedLsym_fixedDsym :
    (runOf .fixedLsym261 (inBlock [] .fixedHuffmanBlock),
      after (exec .fixedDsym0 { at' (base []) .fixedHuffmanBlock (.distance 3) with
        win := [(0, 7)], cur := 1, cnt := 1 }) (fun t => t.out)) = (some 7, some [7, 7, 7]) := by decide
/-- R223 to R237 (a sample over fault entry): STATE, ERR and the response agree, IN stays. -/
theorem test_takeFault : ((base [1, 2]).takeFault .corruptSymbol).bdState = .failed ∧
    ((base [1, 2]).takeFault .corruptSymbol).errCode = 15 ∧ ((base [1, 2]).takeFault .corruptSymbol).inp = [1, 2] ∧
    ((base [1, 2]).takeFault .corruptSymbol).hostReadOut = none := by decide

/-! ### The step -/

/-- R61: the oldest command runs; with none the core waits. -/
theorem test_step_command :
    after (step (State.reset.withHost [0xA5] [⟨2, 0, 0, 0⟩, ⟨1, 0, 0, 0⟩])) (fun t => (t.resp, t.port.length)) =
      some (some ⟨.ok, 1⟩, 1) ∧ after (step State.reset) (fun t => t) = some State.reset := by decide +kernel
/-- A header read at POS. -/
theorem test_step_header : after (step (base [0x05]).perCallInit) (fun t => (t.final, t.type, t.pos, t.phase)) =
    some (true, 2, 3, .preHlit) := by decide
/-- A codeword of the fixed table read at POS: K2's end of block. -/
theorem test_step_fixed : after (step { inBlock [0x03, 0x00] .fixedHuffmanBlock with pos := 3, final := true })
    (fun t => (t.bdState, t.pos)) = some (.done, 16) := by decide +kernel
/-- `withFetchWord` puts an instruction where the next step runs it: BR.POS (op 1), DSYM.16, FIXED.EOB, FIXED.LIT.0. -/
theorem test_withFetchWord :
    decodeTableWord 8 1 = some .brPos ∧ decodeTableWord 8 16 = some .dsym16 ∧
    decodeTableWord 8 128 = some .fixedEob ∧ decodeTableWord 16 304 = some .fixedLit0 ∧
    after (step (State.reset.withFetchWord 8 1)) (fun t => t.resp) = some (some ⟨.ok, 0⟩) ∧
    after (step (State.reset.withFetchWord 8 16)) (fun t => t.errCode) = some 9 ∧
    after (step (State.reset.withFetchWord 8 128)) (fun t => t.phase) = some .header ∧
    after (step (State.reset.withFetchWord 16 304)) (fun t => t.out) = some [0] := by decide +kernel

/-! ### Witnesses

For each statement with hypotheses: concrete values that meet all of them together, for each clause, at the ends of its
range where it has one. Statements about every state that is not FAILED share the first one. -/

/-- BrPosAnswersTheBitOffset, and the first hypothesis of every statement about a command outside FAILED. -/
theorem witness_notFailed : State.reset.bdState ≠ .failed ∧ (base [1, 2]).bdState ≠ .failed ∧
    State.reset.err = none := by decide

/-- BrTryAnswersTheNextBitOrNone: a bit is left; none is left. -/
theorem witness_brTry : (base [0xA5]).bdState ≠ .failed ∧ { base [0xA5] with pos := 7 }.pos < 8 * (base [0xA5]).inLen ∧
    { base [0xA5] with pos := 8 }.pos = 8 * (base [0xA5]).inLen ∧ (base []).pos = 8 * (base []).inLen := by decide

/-- BrRduPacksBitsLittleEndian: counts just outside 0..31; one bit too few; exactly enough, for 0 and for 31 bits. -/
theorem witness_brRdu : ((-1 : Int) < 0 ∨ (31 : Int) < -1) ∧ ((32 : Int) < 0 ∨ (31 : Int) < 32) ∧
    (1 ≤ 31 ∧ 8 * (base []).inLen < (base []).pos + 1) ∧ (0 ≤ 31 ∧ (base []).pos + 0 ≤ 8 * (base []).inLen) ∧
    (31 ≤ 31 ∧ { base [1, 2, 3, 4] with pos := 1 }.pos + 31 ≤ 8 * (base [1, 2, 3, 4]).inLen) := by decide

/-- BitsOfAByteAreReadLsbFirst. -/
theorem witness_bits : ([0x87, 0x3C] : List Byte)[15 / 8]? = some 0x3C := by decide

/-- ReadUintSplits: B1, 4 bits and then 8. -/
theorem witness_split : 4 + 8 ≤ 31 ∧
    (base [0xB5, 0x01]).readUint (4 : Nat) = .ok (5, (base [0xB5, 0x01]).withPos 4) ∧
    ((base [0xB5, 0x01]).withPos 4).readUint (8 : Nat) = .ok (27, (base [0xB5, 0x01]).withPos 12) := by
  refine ⟨by decide, ?_, ?_⟩
  · rw [State.readUint_ok (by decide) (by decide), show bitsAt _ _ _ = 5 from by decide]; rfl
  · rw [State.readUint_ok (by decide) (by decide), show bitsAt _ _ _ = 27 from by decide]; rfl

/-- BuildSucceedsExactlyOnFullCodes: a full, an overfull and an underfull list, lengths 0 and 15 among them (H11, H2, H14). -/
theorem witness_build : (∀ l ∈ [0, 1, 2, 3, 4, 5, 6, 7, 8, 9, 10, 11, 12, 13, 14, 15, 15], l ≤ 15) ∧
    codeSpace [0, 1, 2, 3, 4, 5, 6, 7, 8, 9, 10, 11, 12, 13, 14, 15, 15] = 32768 ∧
    codeSpace [1, 1, 1] = 49152 ∧ codeSpace [15] = 1 := by decide

/-- BuiltTablesArePrefixFree and DecodeEndsWithinFifteenBits: H4, before its bits, at the end of input, and one bit before
the end. -/
theorem witness_table : (∀ l ∈ [2, 1, 3, 3], l ≤ 15) ∧
    (build [2, 1, 3, 3]).toOption = some [(2, 1), (6, 0), (14, 2), (15, 3)] ∧
    (base [0x3B]).pos ≤ 8 * (base [0x3B]).inLen ∧ (base []).pos ≤ 8 * (base []).inLen ∧
    { base [0xFF] with pos := 7 }.pos ≤ 8 * (base [0xFF]).inLen := by decide

/-- BuiltTablesArePrefixFree, the order of the codewords, in H4: symbols 2 and 3 follow each other at length 3; symbol 1 is
the first of the shortest length; symbol 0 is the first of length 2, behind symbol 1 of length 1. In [1, 3, 3, 3, 3] the
nearest shorter length of 3 is 1. -/
theorem witness_canonical : (([2, 1, 3, 3] : List Nat)[2]? = some 3 ∧ ([2, 1, 3, 3] : List Nat)[3]? = some 3) ∧
    (∀ k, 2 < k → k < 3 → ([2, 1, 3, 3] : List Nat)[k]? ≠ some 3) ∧
    ((∀ k, k < 1 → ([2, 1, 3, 3] : List Nat)[k]? ≠ some 1) ∧ ∀ l ∈ ([2, 1, 3, 3] : List Nat), l = 0 ∨ 1 ≤ l) ∧
    (∀ k, k < 0 → ([2, 1, 3, 3] : List Nat)[k]? ≠ some 2) ∧ (∀ l ∈ ([2, 1, 3, 3] : List Nat), l ≤ 1 ∨ 2 ≤ l) ∧
    (∀ k, 1 < k → ([2, 1, 3, 3] : List Nat)[k]? ≠ some 1) ∧
    ((build [1, 3, 3, 3, 3]).toOption = some [(2, 0), (12, 1), (13, 2), (14, 3), (15, 4)] ∧
      (∀ l ∈ ([1, 3, 3, 3, 3] : List Nat), l ≤ 1 ∨ 3 ≤ l) ∧ ∀ k, 0 < k → ([1, 3, 3, 3, 3] : List Nat)[k]? ≠ some 1) := by
  have far : ∀ (a b c : Nat) (k : Nat), 1 < k → ([a, b, 3, 3] : List Nat)[k]? ≠ some 1 := by
    rintro a b c (_ | _ | _ | _ | k) h <;> simp_all
  refine ⟨by decide, fun k h1 h2 => by omega, by decide, by decide, by decide, far 2 1 3, by decide, by decide, ?_⟩
  rintro (_ | _ | _ | _ | _ | k) h <;> simp_all

/-- HcBldReplacesTheSlot: the whole of LENBUF, a span of two; a list that faults; operands just outside. -/
theorem witness_hcBld :
    (0 + 320 ≤ 320 ∧ 318 + 2 ≤ 320) ∧
    (build ((({ base [] with lenBuf := [1, 1] ++ List.replicate 318 0 } : State).lenBuf.drop 0).take 320)).toOption =
      some [(2, 0), (3, 1)] ∧
    ((2 : Int) ≤ 2 ∧ (4 : Int) ≤ 4 ∧ build (((base []).lenBuf.drop 318).take 2) = .error .underfullCode) ∧
    ((1 : Int) < 2 ∧ (4 : Int) < 5 ∧ (-1 : Int) < 0 ∧ (320 : Int) < 319 + 2) := by decide +kernel

/-- A table of the canonical example H4 in slot 2, and its first codeword in IN. -/
def h4 (bytes : List Byte) : State := { base bytes with tblClc := some [(2, 1), (6, 0), (14, 2), (15, 3)] }

/-- HcDecDecodesTheCodewordAtPos: H20's three-bit codeword; a codeword cut off by the end of IN (its first two bits are no
key); an EMPTY slot; slots just outside 0..4. -/
theorem witness_hcDec_found : (h4 [0x3B]).table 2 = some [(2, 1), (6, 0), (14, 2), (15, 3)] ∧
    (h4 [0x3B]).codewordHere [(2, 1), (6, 0), (14, 2), (15, 3)] 3 2 := by
  refine ⟨rfl, by decide, by decide, by decide, fun m h1 h2 => ?_⟩
  obtain rfl | rfl : m = 1 ∨ m = 2 := by omega
  · decide
  · decide

theorem witness_hcDec_end : { h4 [0xFF] with pos := 6 }.table 2 = some [(2, 1), (6, 0), (14, 2), (15, 3)] ∧
    ∀ m, 1 ≤ m → { h4 [0xFF] with pos := 6 }.pos + m ≤ 8 * (h4 [0xFF]).inLen →
      tableLookup [(2, 1), (6, 0), (14, 2), (15, 3)] (codeKey m (codewordAt [0xFF] 6 m)) = none := by
  refine ⟨rfl, fun m h1 h2 => ?_⟩
  have h3 : 6 + m ≤ 8 := h2
  obtain rfl | rfl : m = 1 ∨ m = 2 := by omega
  · decide
  · decide

theorem witness_hcDec_empty : State.reset.table 4 = none ∧ (4 ≤ 4) ∧ ((-1 : Int) < 0 ∧ (4 : Int) < 5) := by decide

/-- LbSetWritesOneLength: the last entry, the largest length; operands just outside. -/
theorem witness_lbSet : (319 ≤ 319 ∧ 15 ≤ 15) ∧ ((-1 : Int) < 0 ∧ (319 : Int) < 320 ∧ (15 : Int) < 16) := by decide

/-- SwAppAppendsToTheWindowOnly: the largest byte, any other cell; operands just outside. -/
theorem witness_swApp : 255 < 256 ∧ 1 ≠ State.reset.cur ∧ ((-1 : Int) < 0 ∧ (255 : Int) < 256) := by decide

/-- A full window with the cursor at its last cell. -/
def full : State := { base [] with cur := 32767, cnt := 32768 }

/-- SwCpyRepeatsTheLastBytes: distances just outside 1..CNT; a negative length; the largest distance on a full ring, a
length beyond the ring with a byte that stays and a cell that is written, and length 0 where every cell stays. -/
theorem witness_swCpy : ((0 : Int) < 1 ∧ (full.cnt : Int) < 32769) ∧ ((1 : Int) ≤ 32768 ∧ (32768 : Int) ≤ full.cnt ∧ (-1 : Int) < 0) ∧
    (1 ≤ 32768 ∧ 32768 ≤ full.cnt ∧ full.cnt ≤ 32768 ∧ full.cur < 32768) ∧
    (1 < 32769 ∧ 32769 ≤ 1 + 32768) ∧ (0 < 32768 ∧ ∀ k, k < 1 → 0 ≠ (full.cur + k) % 32768) := by
  refine ⟨by decide, by decide, by decide, by decide, by decide, fun k hk => ?_⟩
  obtain rfl : k = 0 := by omega
  decide

/-- HeadersSelectTheBlock. -/
theorem witness_header : (at' (base []) .readingBlockHeader .header).phase = .header := by decide

/-- StoredPaddingAligns: behind the header, and at the very end of IN. -/
theorem witness_pad : { at' (base [0, 0]) .storedBlock .storedPad with pos := 9 }.phase = .storedPad ∧
    { at' (base [0, 0]) .storedBlock .storedPad with pos := 9 }.pos ≤ 8 * (base [0, 0]).inLen ∧
    { at' (base [0]) .storedBlock .storedPad with pos := 8 }.pos ≤ 8 * (base [0]).inLen := by decide

/-- StoredLengthMustMatchItsComplement: LEN; a mismatch, a match with the largest LEN, a match with LEN = 0. -/
theorem witness_stored : (at' (base []) .storedBlock .storedLen).phase = .storedLen ∧
    (at' (base []) .storedBlock (.storedNlen 5)).phase = .storedNlen 5 ∧ (5 < 65536 ∧ 0xFFFB < 65536 ∧ 0xFFFB ≠ 65535 - 5) ∧
    (at' (base []) .storedBlock (.storedNlen 65535)).phase = .storedNlen 65535 ∧ (0 = 65535 - 65535 ∧ 0 < 65535) ∧
    (at' (base []) .storedBlock (.storedNlen 0)).phase = .storedNlen 0 ∧ (65535 < 65536 ∧ 65535 = 65535 - 0) := by decide

/-- StoredBytesGoToOutAndWindow: a byte with more to come, and the last one. -/
theorem witness_data : (at' (base []) .storedBlock (.storedData 2)).phase = .storedData 2 ∧ 1 < 2 ∧
    (at' (base []) .storedBlock (.storedData 1)).phase = .storedData 1 ∧ 255 < 256 := by decide

/-- BlocksEndInTheNextHeaderOrInDone: FINAL 0; FINAL 1 at the end of IN. -/
theorem witness_endBlock : State.reset.final = false ∧ { base [0] with final := true, pos := 8 }.final = true ∧
    { base [0] with final := true, pos := 8 }.pos ≤ 8 * (base [0]).inLen := by decide

/-- The rows of a symbol: in a dynamic block the LL_SYMBOL row, in a fixed block also the row of its codeword. -/
theorem witness_standsFor_ll (s : State) (h : s.bdState = .fixedHuffmanBlock) :
    standsForLiteralLength (.lit 0) s 0 ∧ standsForLiteralLength (.lit 255) s 255 ∧ standsForLiteralLength .eob s 256 ∧
    standsForLiteralLength .lsym257 s 257 ∧ standsForLiteralLength .lsym264 s 264 ∧
    standsForLiteralLength .lsym265 s 265 ∧ standsForLiteralLength .lsym284 s 284 ∧
    standsForLiteralLength .lsym285 s 285 ∧ standsForLiteralLength .lsym286 s 286 ∧
    standsForLiteralLength .lsym287 s 287 ∧ standsForLiteralLength .fixedLit0 s 0 ∧
    standsForLiteralLength .fixedLit255 s 255 ∧ standsForLiteralLength .fixedEob s 256 ∧
    standsForLiteralLength .fixedLsym284 s 284 ∧ standsForLiteralLength .fixedLsym287 s 287 :=
  ⟨.inl rfl, .inl rfl, .inl rfl, .inl rfl, .inl rfl, .inl rfl, .inl rfl, .inl rfl, .inl rfl, .inl rfl,
    .inr ⟨h, _, rfl, rfl⟩, .inr ⟨h, _, rfl, rfl⟩, .inr ⟨h, _, rfl, rfl⟩, .inr ⟨h, _, rfl, rfl⟩,
    .inr ⟨h, _, rfl, rfl⟩⟩

/-- LiteralsGoToOutAndWindow and EndOfBlockSymbolEndsTheBlock: the place. -/
theorem witness_symbol : (inBlock [] .fixedHuffmanBlock).phase = .symbol ∧
    (inBlock [] .fixedHuffmanBlock).bdState = .fixedHuffmanBlock ∧ 255 < 256 := by decide

/-- LengthSymbolsComputeTheRunLength: the symbols at the ends of each clause's range, with exactly their extra bits left. -/
theorem witness_length : (inBlock [] .fixedHuffmanBlock).phase = .symbol ∧
    (inBlock [] .fixedHuffmanBlock).distPresent = true ∧ (257 ≤ 264 ∧ 264 ≤ 264) ∧
    (265 ≤ 265 ∧ 265 ≤ 284 ∧ 1 = (265 - 261) / 4 ∧
      { inBlock [0] .fixedHuffmanBlock with pos := 7 }.pos + 1 ≤ 8 * (inBlock [0] .fixedHuffmanBlock).inLen) ∧
    (265 ≤ 284 ∧ 284 ≤ 284 ∧ 5 = (284 - 261) / 4 ∧
      { inBlock [0] .fixedHuffmanBlock with pos := 3 }.pos + 5 ≤ 8 * (inBlock [0] .fixedHuffmanBlock).inLen) := by decide

/-- LengthSymbolFaultsComeInOrder: extra bits cut off by one; a length symbol, with its extra bits and without any, in a
block without a distance code. -/
theorem witness_length_faults :
    (265 ≤ 284 ∧ 284 ≤ 284 ∧
      8 * (inBlock [0] .fixedHuffmanBlock).inLen < { inBlock [0] .fixedHuffmanBlock with pos := 4 }.pos + (284 - 261) / 4) ∧
    (265 ≤ 265 ∧ 8 * (inBlock [] .fixedHuffmanBlock).inLen < (inBlock [] .fixedHuffmanBlock).pos + (265 - 261) / 4) ∧
    (257 ≤ 257 ∧ 257 ≤ 285 ∧ (265 ≤ 257 → 257 ≤ 284 → (base []).pos + (257 - 261) / 4 ≤ 8 * (base []).inLen) ∧
      (at' (base []) .dynamicHuffmanBlock .symbol).distPresent = false) ∧
    (257 ≤ 285 ∧ 285 ≤ 285 ∧ (265 ≤ 285 → 285 ≤ 284 → (base []).pos + (285 - 261) / 4 ≤ 8 * (base []).inLen)) := by
  decide

/-- The rows of a distance symbol. -/
theorem witness_standsFor_d (s : State) (h : s.bdState = .fixedHuffmanBlock) :
    standsForDistance .dsym0 s 0 ∧ standsForDistance .dsym3 s 3 ∧ standsForDistance .dsym4 s 4 ∧
    standsForDistance .dsym29 s 29 ∧ standsForDistance .dsym30 s 30 ∧ standsForDistance .dsym31 s 31 ∧
    standsForDistance .fixedDsym0 s 0 ∧ standsForDistance .fixedDsym29 s 29 ∧ standsForDistance .fixedDsym31 s 31 :=
  ⟨.inl rfl, .inl rfl, .inl rfl, .inl rfl, .inl rfl, .inl rfl, .inr ⟨h, _, rfl, rfl⟩, .inr ⟨h, _, rfl, rfl⟩,
    .inr ⟨h, _, rfl, rfl⟩⟩

/-- Before a distance symbol with the run length `run`, and a full window. -/
def beforeDistance (bytes : List Byte) (run : Nat) : State :=
  { at' (base bytes) .fixedHuffmanBlock (.distance run) with cur := 5, cnt := 32768 }

/-- DistanceSymbolsCopyTheRun: the largest distance, 32768, from symbol 29 and extra bits all 1, over a full window; and
distance 1 of symbol 0. -/
theorem witness_distance : (beforeDistance [0xFF, 0xFF] 258).phase = .distance 258 ∧ 29 ≤ 29 ∧
    13 = (if 29 ≤ 3 then 0 else 29 / 2 - 1) ∧
    32768 = (if 29 ≤ 3 then 29 + 1 else (29 % 2 + 2) * 2 ^ 13 + 1 +
      ∑ k ∈ Finset.range 13, bitAt (beforeDistance [0xFF, 0xFF] 258).inp ((beforeDistance [0xFF, 0xFF] 258).pos + k) * 2 ^ k) ∧
    (beforeDistance [0xFF, 0xFF] 258).pos + 13 ≤ 8 * (beforeDistance [0xFF, 0xFF] 258).inLen ∧
    32768 ≤ (beforeDistance [0xFF, 0xFF] 258).cnt ∧ (beforeDistance [0xFF, 0xFF] 258).cnt ≤ 32768 ∧
    (beforeDistance [0xFF, 0xFF] 258).cur < 32768 ∧
    (0 = (if 0 ≤ 3 then 0 else 0 / 2 - 1) ∧ 1 = (if 0 ≤ 3 then 0 + 1 else 0) ∧ (beforeDistance [] 3).pos + 0 ≤ 8 * (beforeDistance [] 3).inLen) := by
  decide +kernel

/-- DistanceSymbolFaultsComeInOrder: extra bits cut off by one; a window one byte short, without and with extra bits. -/
theorem witness_distance_faults :
    (4 ≤ 4 ∧ 4 ≤ 29 ∧ 8 * (beforeDistance [] 3).inLen < (beforeDistance [] 3).pos + (4 / 2 - 1)) ∧
    (4 ≤ 29 ∧ 29 ≤ 29 ∧ 8 * (beforeDistance [0] 3).inLen < (beforeDistance [0] 3).pos + (29 / 2 - 1)) ∧
    (3 ≤ 3 ∧ { beforeDistance [] 3 with cnt := 3 }.cnt < 3 + 1) ∧
    (4 ≤ 29 ∧ 29 ≤ 29 ∧ 13 = 29 / 2 - 1 ∧ (beforeDistance [0, 0] 3).pos + 13 ≤ 8 * (beforeDistance [0, 0] 3).inLen ∧
      { beforeDistance [0, 0] 3 with cnt := 24576 }.cnt < (29 % 2 + 2) * 2 ^ 13 + 1 +
        ∑ k ∈ Finset.range 13, bitAt (beforeDistance [0, 0] 3).inp ((beforeDistance [0, 0] 3).pos + k) * 2 ^ k) := by
  decide +kernel

/-- RunLengthsAndDistancesStayInRange: the ends of both ranges. -/
theorem witness_ranges : (base []).runLength 257 = .ok (3, base []) ∧ (base []).runLength 285 = .ok (258, base []) ∧
    (base []).distanceOf 0 = .ok (1, base []) ∧
    (base [0xFF, 0xFF]).distanceOf 29 = .ok (32768, (base [0xFF, 0xFF]).withPos 13) := by
  exact ⟨by decide +kernel, by decide +kernel, by decide +kernel, by decide +kernel⟩

/-- PreambleCountsAreSet. -/
theorem witness_counts : (at' (base []) .dynamicHuffmanBlock .preHlit).phase = .preHlit ∧
    (at' (base []) .dynamicHuffmanBlock .preHdist).phase = .preHdist ∧
    (at' (base []) .dynamicHuffmanBlock .preHclen).phase = .preHclen := by decide

/-- GroupsFillTheCodeLengthCode: the first group; the last of four, whose code can and cannot be built. -/
theorem witness_groups : encode (.preCll0 7) = .element (.preCll 0) 7 ∧
    (at' (base []) .dynamicHuffmanBlock (.preCll 0)).phase = .preCll 0 ∧
    [16, 17, 18, 0, 8, 7, 9, 6, 10, 5, 11, 4, 12, 3, 13, 2, 14, 1, 15][0]? = some 16 ∧ 0 + 1 < (base []).nclen ∧
    encode (.preCll3 1) = .element (.preCll 3) 1 ∧
    [16, 17, 18, 0, 8, 7, 9, 6, 10, 5, 11, 4, 12, 3, 13, 2, 14, 1, 15][3]? = some 0 ∧ (base []).nclen ≤ 3 + 1 ∧
    (build ((State.cll { base [] with cll := List.replicate 18 0 ++ [1] }).set 0 1)).toOption = some [(2, 0), (3, 18)] ∧
    build ((base []).cll.set 0 1) = .error .underfullCode := by decide +kernel

/-- CodeLengthSymbolsExtendTheList: a length with room for one more; each repeat with the most repetitions that leave the
list incomplete. -/
theorem witness_codeLength : encode .clsym15 = .element .clSymbol 15 ∧ (inPreamble [] 256).phase = .codeLength ∧
    (15 ≤ 15 ∧ (inPreamble [] 256).lenCnt + 1 < (inPreamble [] 256).nlit + (inPreamble [] 256).ndist) ∧
    (encode .clsym16 = .element .clSymbol 16 ∧ 0 < (inPreamble [0xFF] 1).lenCnt ∧ (inPreamble [0xFF] 1).pos + 2 ≤ 8 * (inPreamble [0xFF] 1).inLen ∧
      6 = 3 + ∑ k ∈ Finset.range 2, bitAt (inPreamble [0xFF] 1).inp ((inPreamble [0xFF] 1).pos + k) * 2 ^ k ∧
      (inPreamble [0xFF] 251).lenCnt + 6 < (inPreamble [0xFF] 251).nlit + (inPreamble [0xFF] 251).ndist) ∧
    (encode .clsym17 = .element .clSymbol 17 ∧ 3 = 3 + ∑ k ∈ Finset.range 3, bitAt [0] (0 + k) * 2 ^ k ∧
      (inPreamble [0] 254).lenCnt + 3 < (inPreamble [0] 254).nlit + (inPreamble [0] 254).ndist) ∧
    (encode .clsym18 = .element .clSymbol 18 ∧ 138 = 11 + ∑ k ∈ Finset.range 7, bitAt [0xFF] (0 + k) * 2 ^ k ∧
      (inPreamble [0xFF] 119).lenCnt + 138 < (inPreamble [0xFF] 119).nlit + (inPreamble [0xFF] 119).ndist) ∧
    (inPreamble [] 0).nlit + (inPreamble [] 0).ndist ≤ (inPreamble [] 0).lenBuf.length := by decide +kernel

/-- CodeLengthFaultsComeInOrder: an empty list; extra bits cut off; one repetition too many. -/
theorem witness_codeLength_faults : (inPreamble [] 0).lenCnt = 0 ∧
    (0 < (inPreamble [] 1).lenCnt ∧ 8 * (inPreamble [] 1).inLen < (inPreamble [] 1).pos + 2) ∧
    ((inPreamble [0] 256).pos + 3 ≤ 8 * (inPreamble [0] 256).inLen ∧
      (inPreamble [0] 256).nlit + (inPreamble [0] 256).ndist <
        (inPreamble [0] 256).lenCnt + (3 + ∑ k ∈ Finset.range 3, bitAt [0] (0 + k) * 2 ^ k)) := by decide +kernel

/-- One length short of a complete list of 258: symbols 255 and 256 of length 1, one distance. -/
def almost (l : List Nat) : State :=
  { at' (base []) .dynamicHuffmanBlock .codeLength with lenCnt := 257, lenBuf := l }

/-- TheCompleteListGivesTheTables: the symbol 0 or 1 completes the list; symbol 256 without a length; a literal/length
code that is not full; the one distance 0; the one distance 1, padded; distances that are not full. -/
theorem witness_complete :
    (at' (base []) .dynamicHuffmanBlock .codeLength).phase = .codeLength ∧ (almost []).phase = .codeLength ∧
    encode .clsym0 = .element .clSymbol 0 ∧ (0 ≤ 15 ∧ (almost []).lenCnt + 1 = (almost []).nlit + (almost []).ndist) ∧
    (257 ≤ (almost []).nlit ∧ 1 ≤ (almost []).ndist ∧ (almost []).ndist ≤ 32) ∧
    (almost []).nlit + (almost []).ndist ≤ (almost (List.replicate 320 0)).lenBuf.length ∧
    (((List.replicate 320 0).set 257 0).take 257)[256]? = some 0 ∧
    (((List.replicate 256 0 ++ 1 :: List.replicate 63 0).set 257 0).take 257)[256]? ≠ some 0 ∧
    build (((List.replicate 256 0 ++ 1 :: List.replicate 63 0).set 257 0).take 257) = .error .underfullCode ∧
    (build (((List.replicate 255 0 ++ 1 :: 1 :: List.replicate 63 0).set 257 0).take 257)).toOption = some [(2, 255), (3, 256)] ∧
    ((((List.replicate 255 0 ++ 1 :: 1 :: List.replicate 63 0).set 257 0).drop 257).take 1) = [0] ∧
    ((((List.replicate 255 0 ++ 1 :: 1 :: List.replicate 63 0).set 257 1).drop 257).take 1) = [1] ∧
    (build (([1] ++ List.replicate 31 0).set 31 1)).toOption = some [(2, 0), (3, 31)] ∧
    build [2] = .error .underfullCode := by decide +kernel

/-- TheCompleteListGivesTheTables: each repeat completes the list, 16 across the split with a literal/length and a distance
code that are full, 17 and 18 behind it with the fewest zeros, where the distances cannot be built. -/
theorem witness_complete_repeat : (nearSplit [] 1 257).phase = .codeLength ∧
    (encode .clsym16 = .element .clSymbol 16 ∧ 0 < (nearSplit [2] 4 256).lenCnt ∧
      (nearSplit [2] 4 256).lenBuf[256 - 1]? = some 2 ∧ (nearSplit [2] 4 256).pos + 2 ≤ 8 * (nearSplit [2] 4 256).inLen ∧
      5 = 3 + ∑ k ∈ Finset.range 2, bitAt [2] (0 + k) * 2 ^ k ∧ 256 + 5 = (nearSplit [2] 4 256).nlit + 4 ∧
      257 + 4 ≤ (nearSplit [2] 4 256).lenBuf.length ∧
      (build (((nearSplit [2] 4 256).lenBuf.take 256 ++ List.replicate 5 2).take 257)).toOption =
        some [(4, 253), (5, 254), (6, 255), (7, 256)] ∧
      (((nearSplit [2] 4 256).lenBuf.take 256 ++ List.replicate 5 2).drop 257).take 4 ≠ [0] ∧
      (build [2, 2, 2, 2]).toOption = some [(4, 0), (5, 1), (6, 2), (7, 3)]) ∧
    (encode .clsym17 = .element .clSymbol 17 ∧ 0 + 3 ≤ 8 * (nearSplit [0] 3 257).inLen ∧
      3 = 3 + ∑ k ∈ Finset.range 3, bitAt [0] (0 + k) * 2 ^ k ∧ 257 + 3 = (nearSplit [0] 3 257).nlit + 3 ∧
      build (List.replicate 3 0) = .error .underfullCode) ∧
    (encode .clsym18 = .element .clSymbol 18 ∧ 0 + 7 ≤ 8 * (nearSplit [0] 11 257).inLen ∧
      11 = 11 + ∑ k ∈ Finset.range 7, bitAt [0] (0 + k) * 2 ^ k ∧ 257 + 11 = (nearSplit [0] 11 257).nlit + 11 ∧
      (build ((nearSplit [0] 11 257).lenBuf.take 257)).toOption = some [(4, 253), (5, 254), (6, 255), (7, 256)] ∧
      build (List.replicate 11 0) = .error .underfullCode) := by decide +kernel

/-- PaddingMakesTheSingleDistanceCodeFull: the ends of its ranges. -/
theorem witness_padding : (0 < 1 ∧ 1 ≤ 32 ∧ 0 ≤ 30) ∧ (30 < 31 ∧ 31 ≤ 32 ∧ 30 ≤ 30) ∧ (30 < 32 ∧ 32 ≤ 32) := by decide

/-- FaultEntryRecordsTheKind: the first fault, and a later one. -/
theorem witness_takeFault : State.reset.err = none ∧
    { State.reset with err := some .corruptSymbol }.err = some .corruptSymbol := by decide

/-- FailedIsEnteredOnlyByAFault: BR.RDU on an empty input. -/
theorem witness_enterFailed : after (exec (.brRdu 1) (base [])) (fun t => t.bdState) = some .failed := by decide

/-- The state after a fault. -/
def failed : State := (base [1, 2, 3]).takeFault .invalidLength

/-- OnlyResetLeavesFailed and ExactlyTheListedCommandsAreRefused: a command in FAILED. -/
theorem witness_failed : failed.bdState = .failed ∧ failed.phase = .idle ∧ isCommand .brPos ∧ Instr.brPos ≠ .reset ∧
    refusable .brPos failed ∧ exec .brPos failed = .next failed.refuse :=
  ⟨rfl, rfl, ⟨_, rfl⟩, by decide,
    .inr (.inr (.inr (.inr (.inr (.inl ⟨rfl, by decide, fun _ => Instr.noConfusion⟩))))), rfl⟩

/-- ExactlyTheListedCommandsAreRefused: operands just outside their domains, an EMPTY slot, and a command that is not of
the list. -/
theorem witness_refused : ((1 : Int) < 2 ∧ (4 : Int) < 5 ∧ (320 : Int) < 0 + 321) ∧
    ((-1 : Int) < 0 ∧ (4 : Int) < 5 ∧ State.reset.table (Int.toNat 2) = none) ∧
    ((255 : Int) < 256) ∧ ((319 : Int) < 320 ∧ (15 : Int) < 16) ∧ ((5 : Int) < 6) := by decide

theorem witness_not_refused : isCommand .brPos ∧ ¬ refusable .brPos State.reset :=
  ⟨⟨_, rfl⟩, by simp [refusable, State.reset]⟩

/-- CsrRdShowsTheListedFields: the greatest value of every field. -/
theorem witness_csrRd : { full with type := 3, nlit := 288, ndist := 32, nclen := 19, lenCnt := 320 }.bdState ≠ .failed ∧
    3 < 4 ∧ full.cur < 32768 ∧ full.cnt ≤ 32768 ∧ 288 ≤ 288 ∧ 32 ≤ 32 ∧ 19 ≤ 19 ∧ 320 ≤ 320 ∧ 5 ≤ 5 := by decide

/-- NoInstructionWritesInOrTheFixedTables, PosOnlyMovesForward, OutIsAppendOnly: a read that moves POS to the end, and a
copy that appends to OUT. -/
theorem witness_frames : State.reset.tblFixedLL = fixedLLTable ∧ State.reset.tblFixedD = fixedDTable ∧
    Instr.brTry ≠ .reset ∧ Instr.brTry ≠ .bdRun ∧ (base [1]).pos ≤ 8 * (base [1]).inLen ∧
    (∃ t, exec .brTry (base [1]) = .next t ∧ t.bdState ≠ .failed) ∧
    ∃ t, exec (.swCpy 1 2) { base [] with win := [(0, 7)], cur := 1, cnt := 1 } = .next t ∧ t.bdState ≠ .failed :=
  ⟨rfl, rfl, by decide, by decide, by decide, ⟨_, rfl, by decide⟩, ⟨_, rfl, by decide⟩⟩

/-- A start state has the invariant: the hypothesis `s.Inv` of the statements about runs. -/
theorem witness_inv : (base [0x01, 0x00, 0x00, 0xFF, 0xFF]).Inv where
  pos_le := by decide
  fixedLL := rfl
  fixedD := rfl
  clc_built := slotBuilt_none
  dynLL_built := slotBuilt_none
  dynD_built := slotBuilt_none
  win_wf := rfl
  cur_lt := by decide
  cnt_le := by decide
  backed := fun _ d h1 h2 => by change d ≤ 0 at h2; omega
  type_lt := by decide
  nlit_range := by decide
  ndist_range := by decide
  nclen_range := by decide
  cll_ok := by decide
  lenBuf_ok := by decide +kernel
  lenCnt_le := by decide
  err_failed := by decide
  place := .inl rfl
  ready_done := by decide

/-- The first state of a run, too: `s.Inv` with a place inside a run, and the window's history (there is none yet).
RowsAgreeWithTheBlockDecoder, TheWindowHoldsTheTailOfOut. -/
theorem witness_inRun : (base [0x01, 0x00, 0x00, 0xFF, 0xFF]).perCallInit.Inv ∧
    (base [0x01, 0x00, 0x00, 0xFF, 0xFF]).perCallInit.phase ≠ .idle ∧
    (base [0x01, 0x00, 0x00, 0xFF, 0xFF]).perCallInit.HistoryIsOut :=
  ⟨witness_inv.perCallInit (by decide), by decide, ⟨rfl, rfl, fun d h1 h2 => by change d ≤ 0 at h2; omega⟩⟩

/-- TheWindowHoldsTheTailOfOut and StepKeepsTheInvariant: a step that is no fault; a run that ends in Done. -/
theorem witness_runs :
    after (step (base [0x01, 0x00, 0x00, 0xFF, 0xFF]).perCallInit) (fun t => t.bdState) = some .storedBlock ∧
    after (exec .bdRun (base [0x01, 0x00, 0x00, 0xFF, 0xFF])) (fun t => t.bdState) = some .done := by decide

/-- BdRunDependsOnTheInputAlone: two states with one input and different histories. -/
theorem witness_sameInput : (base [0x01, 0x00, 0x00, 0xFF, 0xFF]).Inv ∧
    ((base [0x01, 0x00, 0x00, 0xFF, 0xFF]).append 9).Inv ∧
    (base [0x01, 0x00, 0x00, 0xFF, 0xFF]).inp = ((base [0x01, 0x00, 0x00, 0xFF, 0xFF]).append 9).inp ∧
    ((base [0x01, 0x00, 0x00, 0xFF, 0xFF]).append 9).bdState ≠ .failed :=
  ⟨witness_inv, witness_inv.append 9, rfl, by decide⟩

/-- BdRunDecodesAStoredStream: program P1 with all padding bits 1 and two surplus bytes; and no data at all. -/
theorem witness_stored_stream : 31 < 32 ∧ 5 = ([0x48, 0x65, 0x6C, 0x6C, 0x6F] : List Byte).length ∧ 5 < 65536 ∧
    (base [0xF9, 0x05, 0x00, 0xFA, 0xFF, 0x48, 0x65, 0x6C, 0x6C, 0x6F, 0xDE, 0xAD]).inp =
      [BitVec.ofNat 8 (1 + 8 * 31), BitVec.ofNat 8 5, BitVec.ofNat 8 (5 / 256), BitVec.ofNat 8 (65535 - 5),
        BitVec.ofNat 8 ((65535 - 5) / 256)] ++ [0x48, 0x65, 0x6C, 0x6C, 0x6F] ++ [0xDE, 0xAD] ∧
    (base [0x01, 0x00, 0x00, 0xFF, 0xFF]).inp =
      [BitVec.ofNat 8 (1 + 8 * 0), BitVec.ofNat 8 0, BitVec.ofNat 8 (0 / 256), BitVec.ofNat 8 (65535 - 0),
        BitVec.ofNat 8 ((65535 - 0) / 256)] ++ [] ++ [] := by decide

/-- StepRunsTheCommandPresented: a command at the head of the port; an empty port. -/
theorem witness_step_command : (State.reset.withHost [] [⟨2, 0, 0, 0⟩]).phase = .idle ∧
    (State.reset.withHost [] [⟨2, 0, 0, 0⟩]).port = [⟨2, 0, 0, 0⟩] ∧
    decode (.command ⟨2, 0, 0, 0⟩) = .ok .brTry ∧ State.reset.port = [] := by decide

/-- StepRunsTheElementAtPos: a field, exactly there and one bit short; padding; each kind of codeword. -/
theorem witness_step_element :
    fieldOfPhase (at' (base [5]) .readingBlockHeader .header).phase = some (.hdr, 3) ∧
    { at' (base [5]) .readingBlockHeader .header with pos := 5 }.pos + 3 ≤ 8 * (base [5]).inLen ∧
    decode (.element .hdr (bitsAt [5] 0 3)) = .ok (.hdrDynamic true) ∧
    8 * (base [5]).inLen < { at' (base [5]) .readingBlockHeader .header with pos := 6 }.pos + 3 ∧
    (at' (base []) .storedBlock .storedPad).phase = .storedPad ∧
    (at' (h4 [0x3B]) .dynamicHuffmanBlock .codeLength).phase = .codeLength ∧
    (at' (h4 [0x3B]) .dynamicHuffmanBlock .codeLength).tblClc = some [(2, 1), (6, 0), (14, 2), (15, 3)] ∧
    decode (.element .clSymbol 2) = .ok .clsym2 ∧ decode (.element .llSymbol 2) = .ok (.lit 2) ∧
    decode (.element .dSymbol 2) = .ok .dsym2 ∧ (inBlock [0x00] .fixedHuffmanBlock).bdState = .fixedHuffmanBlock ∧
    decode (.element .fixedLL (codeKey 7 (codewordAt (inBlock [0x00] .fixedHuffmanBlock).inp 0 7))) = .ok .fixedEob ∧
    decode (.element .fixedD (codeKey 5 (codewordAt (inBlock [0x00] .fixedHuffmanBlock).inp 0 5))) = .ok .fixedDsym0 := by
  decide +kernel

/-- The codeword of `h4` stands at POS at every place that decodes with that table. -/
theorem witness_step_codeword (b : BdState) (p : Phase) :
    { at' (h4 [0x3B]) b p with tblDynLL := some [(2, 1), (6, 0), (14, 2), (15, 3)],
                               tblDynD := some [(2, 1), (6, 0), (14, 2), (15, 3)] }.codewordHere
      [(2, 1), (6, 0), (14, 2), (15, 3)] 3 2 := witness_hcDec_found.2

/-- StepRunsTheElementAtPos: the input ends inside a codeword of the table in force. -/
theorem witness_step_end : { at' (h4 [0xFF]) .dynamicHuffmanBlock .codeLength with pos := 6 }.decodesWith
      [(2, 1), (6, 0), (14, 2), (15, 3)] ∧
    ∀ m, 1 ≤ m → { at' (h4 [0xFF]) .dynamicHuffmanBlock .codeLength with pos := 6 }.pos + m ≤ 8 * (h4 [0xFF]).inLen →
      tableLookup [(2, 1), (6, 0), (14, 2), (15, 3)] (codeKey m (codewordAt [0xFF] 6 m)) = none :=
  ⟨.inl ⟨rfl, rfl⟩, witness_hcDec_end.2⟩

/-- The end-of-block codeword, seven 0 bits, stands at the start of an input byte 0 (H25). -/
theorem witness_step_fixed : ∃ t, (inBlock [0x00] .fixedHuffmanBlock).tblFixedLL = some t ∧
    (inBlock [0x00] .fixedHuffmanBlock).codewordHere t 7 256 := by
  refine ⟨fixedLLTable.getD [], by decide +kernel, by decide, by decide, by decide +kernel, ?_⟩
  have : ∀ m, m < 7 → 1 ≤ m → tableLookup (fixedLLTable.getD [])
      (codeKey m (codewordAt (inBlock [0x00] .fixedHuffmanBlock).inp (inBlock [0x00] .fixedHuffmanBlock).pos m)) = none := by
    decide +kernel
  exact fun m h1 h2 => this m h2 h1

/-- The distance codeword of symbol 0, five 0 bits. -/
theorem witness_step_fixedD : ∃ t, (inBlock [0x00] .fixedHuffmanBlock).tblFixedD = some t ∧
    (inBlock [0x00] .fixedHuffmanBlock).codewordHere t 5 0 := by
  refine ⟨fixedDTable.getD [], by decide +kernel, by decide, by decide, by decide +kernel, ?_⟩
  have : ∀ m, m < 5 → 1 ≤ m → tableLookup (fixedDTable.getD [])
      (codeKey m (codewordAt (inBlock [0x00] .fixedHuffmanBlock).inp (inBlock [0x00] .fixedHuffmanBlock).pos m)) = none := by
    decide +kernel
  exact fun m h1 h2 => this m h2 h1

/-- EveryCommandGetsANumberedResponse and TheRightToReadOutEndsWithTheNextWrite: a state after a run whose result the host
may read; commands that end the right and one that leaves it. -/
theorem witness_right : ∃ s : State, s.Inv ∧ s.hostReadOut = some [7] ∧ isCommand .bdRun ∧ isCommand .reset ∧
    isCommand (.swCpy 1 0) ∧ isCommand .brPos ∧ (∃ t, exec .bdRun s = .next t ∧ t.bdState = .done) ∧
    (∃ t, exec .reset s = .next t) ∧ (∃ t, exec (.swCpy 1 0) s = .next t ∧ t.bdState = .failed) ∧
    ∃ t, exec .brPos s = .next t ∧ t.bdState ≠ .failed :=
  ⟨{ base [0x01, 0x00, 0x00, 0xFF, 0xFF] with out := [7], outReady := true, bdState := .done },
    { witness_inv with
      backed := fun _ d h1 h2 => by change d ≤ 0 at h2; omega
      err_failed := by decide
      place := .inr (.inl rfl)
      ready_done := fun _ => ⟨rfl, rfl⟩ },
    rfl, ⟨_, rfl⟩, ⟨_, rfl⟩, ⟨_, rfl⟩, ⟨_, rfl⟩, ⟨_, rfl, by decide⟩, ⟨_, rfl⟩, ⟨_, rfl, by decide⟩, ⟨_, rfl, by decide⟩⟩

/-- EveryCommandGetsANumberedResponse: a response of each number. -/
theorem witness_responses : after (exec .brPos (base [])) (fun t => t.resp.map fun r => r.status.code) = some (some 0) ∧
    after (exec .brTry (base [])) (fun t => t.resp.map fun r => r.status.code) = some (some 1) ∧
    after (exec (.brRdu 1) (base [])) (fun t => t.resp.map fun r => r.status.code) = some (some 2) ∧
    after (exec .reserved11 (base [])) (fun t => t.resp.map fun r => r.status.code) = some (some 3) := by decide

/-- DecodeInvertsEncode and EncodeInvertsDecode. -/
theorem witness_encoding : (Instr.swCpy (-2147483648) 2147483647).wf = true ∧ (Instr.preCll18 7).wf = true ∧
    Format.hdr ≠ .storedPad ∧ decode (.element .hdr 7) = .ok (.hdrReserved true) ∧
    decode (.command ⟨9, 319, 15, 0⟩) = .ok (.lbSet 319 15) := by decide

end Sys2Proof.Tests
end

section
/-! PROOFS. Decoding a stream element: the row it gives has that encoding, and the number fits the width of its format. -/

namespace Sys2Proof

theorem rowOr_ok {rows : List Instr} {n : Nat} {why : Reject} {i : Instr} (h : rowOr rows n why = .ok i) :
    rows[n]? = some i := by
  unfold rowOr at h
  split at h
  · next hr => cases h; exact hr
  · cases h

/-- A list of rows whose encodings are those of its positions: what `rowOr` answers has the encoding of the position. -/
theorem encode_of_rowOr {rows : List Instr} {g : Nat → Encoded} (hg : rows.map encode = (List.range rows.length).map g)
    {n : Nat} {why : Reject} {i : Instr} (h : rowOr rows n why = .ok i) : n < rows.length ∧ encode i = g n := by
  have hr := rowOr_ok h
  have hn : n < rows.length := (List.getElem?_eq_some_iff.mp hr).1
  have hm : (rows.map encode)[n]? = some (encode i) := by rw [List.getElem?_map, hr]; rfl
  rw [hg, List.getElem?_map, List.getElem?_range hn] at hm
  exact ⟨hn, (Option.some.inj hm).symm⟩

theorem decodeField_ok {width w : Nat} {mk : Nat → Instr} {why : Reject} {i : Instr}
    (h : decodeField width mk why w = .ok i) : w < 2 ^ width ∧ i = mk w := by
  unfold decodeField at h
  split at h
  · next hw => cases h; exact ⟨hw, rfl⟩
  · cases h

theorem encode_of_decodeHeader {w : Nat} {i : Instr} (h : decodeHeader w = .ok i) :
    w < 8 ∧ encode i = .element .hdr w := by
  have final : ∀ ty : Nat, w / 2 = ty → (w % 2 == 1).toNat + 2 * ty = w := by
    rintro _ rfl
    rcases Nat.mod_two_eq_zero_or_one w with h2 | h2 <;> rw [h2] <;> simp <;> omega
  unfold decodeHeader at h
  split at h <;> cases h
  case h_1 hw => exact ⟨by omega, congrArg (Encoded.element .hdr) (final 0 hw)⟩
  case h_2 hw => exact ⟨by omega, congrArg (Encoded.element .hdr) (final 1 hw)⟩
  case h_3 hw => exact ⟨by omega, congrArg (Encoded.element .hdr) (final 2 hw)⟩
  case h_4 hw => exact ⟨by omega, congrArg (Encoded.element .hdr) (final 3 hw)⟩

theorem encode_of_groupRow {group v : Nat} {i : Instr} (h : groupRow group v = .ok i) :
    encode i = .element (.preCll group) v := by
  unfold groupRow at h
  split at h <;> cases h <;> rfl

theorem lengthRows_encode : lengthRows.map encode =
    (List.range lengthRows.length).map fun n => .element .llSymbol (257 + n) := by decide +kernel

theorem distanceRows_encode : distanceRows.map encode =
    (List.range distanceRows.length).map (.element .dSymbol) := by decide +kernel

theorem codeLengthRows_encode : codeLengthRows.map encode =
    (List.range codeLengthRows.length).map (.element .clSymbol) := by decide +kernel

theorem fixedDRows_encode : fixedDRows.map encode =
    (List.range fixedDRows.length).map fun sym => .element .fixedD (32 + sym) := by decide +kernel

/-- The key of the codeword of a symbol in the fixed literal/length table, the inverse of `fixedLLSymbolOfKey` (R74). -/
def fixedLLKeyOfSymbol (sym : Nat) : Nat :=
  if sym < 144 then 304 + sym else if sym < 256 then 768 + sym else if sym < 280 then sym - 128 else 168 + sym

theorem fixedLLRows_encode : fixedLLRows.map encode =
    (List.range fixedLLRows.length).map fun sym => .element .fixedLL (fixedLLKeyOfSymbol sym) := by decide +kernel

theorem encode_of_decodeLiteralLength {w : Nat} {i : Instr} (h : decodeLiteralLength w = .ok i) :
    w < 288 ∧ encode i = .element .llSymbol w := by
  unfold decodeLiteralLength at h
  split at h
  · cases h; exact ⟨by omega, rfl⟩
  split at h
  · next hw => cases h; exact ⟨by omega, by rw [hw]; rfl⟩
  · obtain ⟨hn, he⟩ := encode_of_rowOr lengthRows_encode h
    change w - 257 < 31 at hn
    exact ⟨by omega, he.trans (congrArg (Encoded.element .llSymbol) (by omega : 257 + (w - 257) = w))⟩

theorem fixedLLKeyOfSymbol_of_key {key sym : Nat} (h : fixedLLSymbolOfKey key = some sym) :
    fixedLLKeyOfSymbol sym = key ∧ key < 1024 := by
  unfold fixedLLSymbolOfKey at h
  unfold fixedLLKeyOfSymbol
  split_ifs at h <;> simp only [Option.some.injEq] at h <;> split_ifs <;> omega

theorem fixedDSymbolOfKey_some {key sym : Nat} (h : fixedDSymbolOfKey key = some sym) :
    32 + sym = key ∧ key < 64 := by
  unfold fixedDSymbolOfKey at h
  split_ifs at h
  have := Option.some.inj h
  omega

theorem encode_of_decode_preCll {group w : Nat} {i : Instr} (h : decode (.element (.preCll group) w) = .ok i) :
    w < 8 ∧ encode i = .element (.preCll group) w := by
  dsimp only [decode, decodeElement] at h
  split at h
  · next hw => exact ⟨hw, encode_of_groupRow h⟩
  · cases h

theorem encode_of_decode_fixedLL {key : Nat} {i : Instr} (h : decode (.element .fixedLL key) = .ok i) :
    key < 1024 ∧ encode i = .element .fixedLL key := by
  dsimp only [decode, decodeElement] at h
  split at h
  · next hk =>
    obtain ⟨hkey, hlt⟩ := fixedLLKeyOfSymbol_of_key hk
    exact ⟨hlt, by rw [(encode_of_rowOr fixedLLRows_encode h).2, hkey]⟩
  · cases h

theorem encode_of_decode_fixedD {key : Nat} {i : Instr} (h : decode (.element .fixedD key) = .ok i) :
    key < 64 ∧ encode i = .element .fixedD key := by
  dsimp only [decode, decodeElement] at h
  split at h
  · next hk =>
    obtain ⟨hkey, hlt⟩ := fixedDSymbolOfKey_some hk
    exact ⟨hlt, by rw [(encode_of_rowOr fixedDRows_encode h).2, hkey]⟩
  · cases h

/-- What the decoder accepts as a stream element is a row with that encoding, and the number fits its format. Padding is
apart: its bits are not looked at (R48). -/
theorem encode_of_decode_element {f : Format} {w : Nat} {i : Instr} (hf : f ≠ .storedPad)
    (h : decode (.element f w) = .ok i) : w < 2 ^ Laws.formatWidth f ∧ encode i = .element f w := by
  cases f with
  | hdr => exact encode_of_decodeHeader h
  | storedPad => exact absurd rfl hf
  | storedLen => obtain ⟨hw, rfl⟩ := decodeField_ok h; exact ⟨hw, rfl⟩
  | storedNlen => obtain ⟨hw, rfl⟩ := decodeField_ok h; exact ⟨hw, rfl⟩
  | storedData => obtain ⟨hw, rfl⟩ := decodeField_ok h; exact ⟨hw, rfl⟩
  | llSymbol =>
    obtain ⟨hw, he⟩ := encode_of_decodeLiteralLength h
    exact ⟨Nat.lt_trans hw (by decide), he⟩
  | dSymbol => exact encode_of_rowOr distanceRows_encode h
  | preHlit => obtain ⟨hw, rfl⟩ := decodeField_ok h; exact ⟨hw, rfl⟩
  | preHdist => obtain ⟨hw, rfl⟩ := decodeField_ok h; exact ⟨hw, rfl⟩
  | preHclen => obtain ⟨hw, rfl⟩ := decodeField_ok h; exact ⟨hw, rfl⟩
  | preCll group => exact encode_of_decode_preCll h
  | clSymbol =>
    obtain ⟨hn, he⟩ := encode_of_rowOr codeLengthRows_encode h
    exact ⟨Nat.lt_trans hn (by decide), he⟩
  | fixedLL => exact encode_of_decode_fixedLL h
  | fixedD => exact encode_of_decode_fixedD h

theorem isCommand_decodeCommand (c : Command) : Machine.isCommand (decodeCommand c) := by
  unfold decodeCommand
  split <;> exact ⟨_, rfl⟩

end Sys2Proof
end

section
/-! PROOFS. What a command can do. Every command but RESET and BD.RUN leads onward (`Onward`) and, between runs, keeps the
invariant, or it enters FAILED; with `exec_element_cases` this says what every instruction can do to IN, the fixed tables,
POS and OUT. -/

namespace Sys2Proof.Machine

/-- What a command other than RESET and BD.RUN can lead to: onward with the invariant kept, or fault entry. -/
def CommandOutcome (s t : State) : Prop :=
  (Onward s t ∧ (s.Inv → s.phase = .idle → t.Inv)) ∨ ∃ k, t = s.takeFault k

/-! ### What a command may write -/

/-- Between runs the place is fine whatever the tables, counts and flags hold. -/
theorem State.placeOk_of_idle {s t : State} (h : s.placeOk) (hs : s.phase = .idle) (ht : t.phase = .idle)
    (hb : t.bdState = s.bdState) : t.placeOk := by
  simp only [State.placeOk, hs, ht, hb] at h ⊢
  exact h

theorem Onward.setTable (s : State) (slot : Nat) (tbl : Option Table) : Onward s (s.setTable slot tbl) := by
  unfold State.setTable
  split <;> exact ⟨rfl, rfl, rfl, rfl, rfl, List.prefix_refl _, Nat.le_refl _, id, id⟩

theorem State.Inv.setTable {s : State} (h : s.Inv) (hp : s.phase = .idle) (slot : Nat) {tbl : Option Table}
    (ht : slotBuilt tbl) : (s.setTable slot tbl).Inv := by
  unfold State.setTable
  split
  · exact { h with clc_built := ht, place := State.placeOk_of_idle h.place hp hp rfl }
  · exact { h with dynLL_built := ht, place := State.placeOk_of_idle h.place hp hp rfl }
  · exact { h with dynD_built := ht, place := State.placeOk_of_idle h.place hp hp rfl }
  · exact h

theorem Onward.append (s : State) (b : Byte) : Onward s (s.append b) :=
  ⟨rfl, rfl, rfl, rfl, rfl, List.prefix_refl _, Nat.le_refl _, id, id⟩

/-- A response, and the model's own counter of free values, are no part of what runs keep. -/
theorem Onward.respond {s t : State} (h : Onward s t) (r : Option Response) (n : Nat) :
    Onward s { t with resp := r, free := n } := { h with }

theorem State.Inv.respond {s : State} (h : s.Inv) (r : Option Response) (n : Nat) :
    ({ s with resp := r, free := n } : State).Inv := { h with }

namespace CommandOutcome

/-- An update that leads onward and keeps the invariant, with its response. -/
theorem respond {s t : State} (ho : Onward s t) (hi : s.Inv → s.phase = .idle → t.Inv) (r : Option Response) (n : Nat) :
    CommandOutcome s { t with resp := r, free := n } :=
  .inl ⟨ho.respond r n, fun h hp => (hi h hp).respond r n⟩

/-- A command that only answers. -/
theorem answer (s : State) (r : Option Response) (n : Nat) : CommandOutcome s { s with resp := r, free := n } :=
  respond (.refl s) (fun h _ => h) r n

theorem refuse (s : State) : CommandOutcome s s.refuse := answer s _ _

theorem of_unlessFailed {s t : State} {r : Result} (h : unlessFailed s r = .next t)
    (hr : r = .next t → CommandOutcome s t) : CommandOutcome s t := by
  unfold unlessFailed at h
  split at h
  · cases h; exact refuse s
  · exact hr h

theorem of_finish {s t : State} {r : Except FaultKind State} (h : finish s r = .next t)
    (hr : r = .ok t → CommandOutcome s t) : CommandOutcome s t := by
  obtain hok | ⟨k, _, ht⟩ := finish_cases h
  · exact hr hok
  · exact .inr ⟨k, ht⟩

/-! ### The commands -/

theorem of_brPos {s t : State} (h : execBrPos s = .next t) : CommandOutcome s t :=
  of_unlessFailed h fun h => by cases h; exact answer s _ _

theorem of_brTry {s t : State} (h : execBrTry s = .next t) : CommandOutcome s t :=
  of_unlessFailed h fun h => by
    split at h
    · cases h; exact answer s _ _
    · next hlt =>
      have hle : s.pos + 1 ≤ 8 * s.inp.length := by change ¬ 8 * s.inp.length ≤ s.pos at hlt; omega
      cases h
      exact respond (.withPos (Nat.le_succ _) fun _ => hle) (fun hi _ => hi.withPos hle) _ _

theorem of_brRdu {s t : State} {n : Int} (h : execBrRdu n s = .next t) : CommandOutcome s t :=
  of_unlessFailed h fun h => of_finish h fun h => by
    split at h
    · next hr =>
      cases h
      obtain ⟨_, h⟩ | ⟨m, rfl, _, ⟨_, h⟩ | ⟨hle, h⟩⟩ := State.readUint_cases hr <;> cases h
      exact respond (.withPos (Nat.le_add_right _ _) fun _ => hle) (fun hi _ => hi.withPos hle) _ _
    · cases h

theorem of_hcBld {s t : State} {slot base count : Int} (h : execHcBld slot base count s = .next t) :
    CommandOutcome s t :=
  of_unlessFailed h fun h => by
    split at h
    · refine of_finish h fun h => ?_
      split at h
      · next tbl hb =>
        cases h
        refine respond (.setTable s _ _) (fun hi hp => hi.setTable hp _ ?_) _ _
        obtain ⟨hlen, hmax⟩ := State.lenSpan_ok hi base.toNat count.toNat
        exact slotBuilt_some hlen hmax hb
      · cases h
    · cases h; exact refuse s

theorem of_hcDec {s t : State} {slot : Int} (h : execHcDec slot s = .next t) : CommandOutcome s t :=
  of_unlessFailed h fun h => by
    split at h
    · split at h
      · cases h; exact refuse s
      · refine of_finish h fun h => ?_
        split at h
        · next hd =>
          cases h
          obtain ⟨ho, _, _⟩ := Onward.decodeSymbol hd
          obtain ⟨p, rfl, _⟩ := State.decodeSymbol_ok hd
          exact respond ho (fun hi _ => hi.withPos (ho.bound hi.pos_le)) _ _
        · cases h
    · cases h; exact refuse s

theorem of_swApp {s t : State} {byte : Int} (h : execSwApp byte s = .next t) : CommandOutcome s t :=
  of_unlessFailed h fun h => by
    split at h
    · cases h; exact respond (.append s _) (fun hi _ => hi.append _) _ _
    · cases h; exact refuse s

theorem of_swCpy {s t : State} {distance length : Int} (h : execSwCpy distance length s = .next t) :
    CommandOutcome s t :=
  of_unlessFailed h fun h => of_finish h fun h => by
    split at h
    · next hc =>
      cases h
      obtain ⟨_, h⟩ | ⟨_, _, _, h⟩ | ⟨_, _, _, h⟩ := State.copyBack_cases hc <;> cases h
      have ho := Onward.copyLoop s (((s.cur : Int) - distance) % Config.windowSize).toNat length.toNat
      refine respond (t := { copyLoop s _ _ with outReady := false }) { ho with } (fun hi _ => ?_) _ _
      exact { hi.copyLoop _ _ with ready_done := fun hx => by cases hx }
    · cases h

theorem of_lbSet {s t : State} {index value : Int} (h : execLbSet index value s = .next t) : CommandOutcome s t :=
  of_unlessFailed h fun h => by
    split at h
    · next hok =>
      cases h
      have hv : value.toNat ≤ 15 := by
        simp only [codeLengthOk, inRange, Bool.and_eq_true, decide_eq_true_eq] at hok
        omega
      exact respond (t := { s with lenBuf := s.lenBuf.set index.toNat value.toNat }) { Onward.refl s with }
        (fun hi _ => { hi with lenBuf_ok := list_set_ok hi.lenBuf_ok hv }) _ _
    · cases h; exact refuse s

theorem of_csrRd {s t : State} {number : Int} (h : execCsrRd number s = .next t) : CommandOutcome s t := by
  unfold execCsrRd at h
  split at h
  · split at h
    · cases h; exact answer s _ _
    · cases h; exact answer s _ _
  · cases h; exact refuse s

end CommandOutcome

/-- Every command but RESET and BD.RUN. -/
theorem exec_command_cases {i : Instr} (hi : isCommand i) (hr : i ≠ .reset) (hb : i ≠ .bdRun) {s t : State}
    (h : exec i s = .next t) : CommandOutcome s t := by
  obtain ⟨c, hc⟩ := hi
  cases i
  case reset => exact absurd rfl hr
  case brPos => exact .of_brPos h
  case brTry => exact .of_brTry h
  case brRdu => exact .of_brRdu h
  case hcBld => exact .of_hcBld h
  case hcDec => exact .of_hcDec h
  case swApp => exact .of_swApp h
  case swCpy => exact .of_swCpy h
  case bdRun => exact absurd rfl hb
  case lbSet => exact .of_lbSet h
  case csrRd => exact .of_csrRd h
  case reserved11 => cases h; exact .refuse s
  case reserved12 => cases h; exact .refuse s
  case reserved13 => cases h; exact .refuse s
  case reserved14 => cases h; exact .refuse s
  case reserved15 => cases h; exact .refuse s
  all_goals cases hc

/-- Every instruction but RESET and BD.RUN leads onward or to fault entry. -/
theorem exec_onward_or_fault {i : Instr} (hr : i ≠ .reset) (hb : i ≠ .bdRun) {s t : State} (h : exec i s = .next t) :
    Onward s t ∨ ∃ k, t = s.takeFault k := by
  cases he : encode i with
  | command c => exact (exec_command_cases ⟨c, he⟩ hr hb h).imp_left And.left
  | element f w => exact (exec_element_cases he h).2

/-- BD.RUN is refused in FAILED; otherwise it runs onward from PerCallInit, to its end or to fault entry. -/
theorem exec_bdRun_cases {s t : State} (h : exec .bdRun s = .next t) :
    t = s.refuse ∨ Onward s.perCallInit t ∨ ∃ u k, Onward s.perCallInit u ∧ t = u.takeFault k := by
  change unlessFailed s (.next (s.perCallInit.runElements s.runFuel)) = .next t at h
  unfold unlessFailed at h
  split at h
  · cases h; exact .inl rfl
  · cases h; exact .inr (State.runElements_onward _ _)

end Sys2Proof.Machine

end

section
/-! PROOFS. The invariant through every step: it holds after reset, every command keeps it between runs, every stream
element keeps it at its place, and a fetch finds only such instructions. -/

namespace Sys2Proof.Machine

/-! ### Reset -/

/-- The reset state has the invariant, whatever the host supplies (R29). -/
theorem State.Inv.reset_withHost (inp : List Byte) (port : List Command) : (State.reset.withHost inp port).Inv where
  pos_le := Nat.zero_le _
  fixedLL := rfl
  fixedD := rfl
  clc_built := slotBuilt_none
  dynLL_built := slotBuilt_none
  dynD_built := slotBuilt_none
  win_wf := rfl
  cur_lt := by show 0 < 32768; decide
  cnt_le := Nat.zero_le _
  backed := fun _ d h1 h2 => by change d ≤ 0 at h2; omega
  type_lt := by show 0 < 4; decide
  nlit_range := by show 257 ≤ 257 ∧ 257 ≤ 288; decide
  ndist_range := by show 1 ≤ 1 ∧ 1 ≤ 32; decide
  nclen_range := by show 4 ≤ 4 ∧ 4 ≤ 19; decide
  cll_ok := ⟨List.length_replicate, fun v hv => by rw [List.eq_of_mem_replicate hv]; decide⟩
  lenBuf_ok := ⟨List.length_replicate, fun v hv => by rw [List.eq_of_mem_replicate hv]; decide⟩
  lenCnt_le := Nat.zero_le _
  err_failed := ⟨nofun, nofun⟩
  place := .inl rfl
  ready_done := nofun

theorem State.Inv.restart (s : State) : s.restart.Inv := { State.Inv.reset_withHost s.inp s.port with }

/-! ### Commands -/

/-- Between runs every command keeps the invariant. -/
theorem State.Inv.exec_command {s t : State} (h : s.Inv) (hp : s.phase = .idle) {i : Instr} (hi : isCommand i)
    (he : exec i s = .next t) : t.Inv := by
  by_cases hr : i = .reset
  · subst hr; cases he; exact (State.Inv.restart s).respond _ _
  by_cases hb : i = .bdRun
  · subst hb
    by_cases hf : s.bdState = .failed
    · cases (unlessFailed_of_failed hf _).symm.trans he; exact h.respond _ _
    · cases (unlessFailed_of_not_failed hf _).symm.trans he; exact (h.perCallInit hf).runElements _
  · obtain ⟨_, hk⟩ | ⟨k, rfl⟩ := exec_command_cases hi hr hb he
    · exact hk h hp
    · exact h.takeFault k

/-! ### Stream elements -/

/-- Fault entry keeps the invariant, so an operation that may raise keeps it when its success does. -/
theorem State.Inv.of_finish {s t : State} (h : s.Inv) {r : Except FaultKind State} (he : finish s r = .next t)
    (hr : r = .ok t → t.Inv) : t.Inv := by
  obtain hok | ⟨k, _, rfl⟩ := finish_cases he
  · exact hr hok
  · exact h.takeFault k

/-- An element out of its place answers no next state, so only its place matters. -/
theorem State.Inv.of_inPlace {s t : State} (h : s.Inv) {p : Phase} {r : Except FaultKind State}
    (he : inPlace (s.phase == p) s r = .next t) (hr : s.phase = p → r = .ok t → t.Inv) : t.Inv := by
  obtain ⟨hp, hr'⟩ := inPlace_cases he
  rw [hp] at he
  exact h.of_finish he (hr (beq_iff_eq.mp hp))

theorem State.Inv.literalLengthElement {s t : State} (h : s.Inv) {sym : Nat}
    (he : literalLengthElement sym s = .next t) : t.Inv :=
  h.of_inPlace he fun hp hr => h.literalLengthSymbol hp hr

theorem State.Inv.distanceElement {s t : State} (h : s.Inv) {sym : Nat} (he : distanceElement sym s = .next t) :
    t.Inv := by
  unfold Machine.distanceElement at he
  split at he
  · next hp => exact h.of_finish he fun hr => h.distanceSymbol hp hr
  · cases he

theorem State.Inv.storedNlenElement {s t : State} (h : s.Inv) {w : Nat} (he : execStoredNlen w s = .next t) : t.Inv := by
  unfold execStoredNlen at he
  split at he
  · next hp => exact h.of_finish he fun hr => h.storedComplement hp hr
  · cases he

theorem State.Inv.storedDataElement {s t : State} (h : s.Inv) {w : Nat} (he : execStoredData w s = .next t) : t.Inv := by
  unfold execStoredData at he
  split at he
  · next hp => cases he; exact h.storedByte hp w
  · cases he

/-- Every stream element whose number fits its format keeps the invariant. -/
theorem State.Inv.exec_element {s t : State} (h : s.Inv) {i : Instr} {f : Format} {w : Nat}
    (hi : encode i = .element f w) (hw : w < 2 ^ Laws.formatWidth f) (he : exec i s = .next t) : t.Inv := by
  cases f with
  | hdr =>
    obtain ⟨_, _, _, _, hx⟩ := exec_of_hdr hi
    rw [hx] at he
    exact h.of_inPlace he fun hp hr => h.blockHeader hp hr
  | storedPad =>
    rw [exec_of_storedPad hi] at he
    exact h.of_inPlace he fun hp hr => by cases hr; exact h.skipPadding hp
  | storedLen =>
    rw [exec_of_storedLen hi] at he
    exact h.of_inPlace he fun hp hr => by cases hr; exact h.storedLength hp hw
  | storedNlen => rw [exec_of_storedNlen hi] at he; exact h.storedNlenElement he
  | storedData => rw [exec_of_storedData hi] at he; exact h.storedDataElement he
  | llSymbol => rw [exec_of_llSymbol hi] at he; exact h.literalLengthElement he
  | dSymbol => rw [exec_of_dSymbol hi] at he; exact h.distanceElement he
  | preHlit =>
    rw [exec_of_preHlit hi] at he
    exact h.of_inPlace he fun hp hr => by cases hr; exact h.setHlit hp hw
  | preHdist =>
    rw [exec_of_preHdist hi] at he
    exact h.of_inPlace he fun hp hr => by cases hr; exact h.setHdist hp hw
  | preHclen =>
    rw [exec_of_preHclen hi] at he
    exact h.of_inPlace he fun hp hr => by cases hr; exact h.setHclen hp hw
  | preCll group =>
    rw [exec_of_preCll hi] at he
    exact h.of_inPlace he fun hp hr => h.setGroup hp hw hr
  | clSymbol =>
    rw [exec_of_clSymbol hi] at he
    exact h.of_inPlace he fun hp hr => h.codeLengthSymbol hp hr
  | fixedLL =>
    obtain ⟨sym, hk⟩ := fixedLL_key_some hi
    rw [exec_of_fixedLL hi hk] at he
    unfold fixedElement at he
    split at he
    · exact h.literalLengthElement he
    · cases he
  | fixedD =>
    obtain ⟨sym, hk⟩ := fixedD_key_some hi
    rw [exec_of_fixedD hi hk] at he
    unfold fixedDistanceElement at he
    split at he
    · exact h.distanceElement he
    · cases he

/-! ### Fetching -/

/-- What the fetch of a stream element finds: POS has moved onward and nothing else changed, and the instruction is a row
whose number fits its format. -/
def FetchedElement (s : State) (i : Instr) (u : State) : Prop :=
  (∃ p, u = s.withPos p ∧ s.pos ≤ p ∧ (s.pos ≤ 8 * s.inp.length → p ≤ 8 * s.inp.length)) ∧
    ∃ f w, encode i = .element f w ∧ w < 2 ^ Laws.formatWidth f

theorem deliver_instr {e : Encoded} {t u : State} {i : Instr} (h : deliver e t = .instr i u) :
    decode e = .ok i ∧ u = t := by
  unfold deliver at h
  split at h <;> cases h
  next hd => exact ⟨hd, rfl⟩

theorem FetchedElement.of_deliver {s t u : State} {f : Format} {w : Nat} {i : Instr} (hf : f ≠ .storedPad)
    (ht : ∃ p, t = s.withPos p ∧ s.pos ≤ p ∧ (s.pos ≤ 8 * s.inp.length → p ≤ 8 * s.inp.length))
    (h : deliver (.element f w) t = .instr i u) : FetchedElement s i u := by
  obtain ⟨hd, rfl⟩ := deliver_instr h
  obtain ⟨hw, he⟩ := encode_of_decode_element hf hd
  exact ⟨ht, f, w, he, hw⟩

/-- A successful Decode as a fetch sees it. -/
theorem State.decodeSymbol_withPos {s t : State} {tbl : Table} {key sym : Nat}
    (h : s.decodeSymbol tbl = .ok (key, sym, t)) :
    ∃ p, t = s.withPos p ∧ s.pos ≤ p ∧ (s.pos ≤ 8 * s.inp.length → p ≤ 8 * s.inp.length) := by
  obtain ⟨ho, _, _⟩ := Onward.decodeSymbol h
  obtain ⟨p, rfl, _⟩ := State.decodeSymbol_ok h
  exact ⟨p, rfl, ho.pos, ho.bound⟩

theorem fetchField_instr {s u : State} {f : Format} {n : Nat} {i : Instr} (hf : f ≠ .storedPad)
    (h : fetchField s f n = .instr i u) : FetchedElement s i u := by
  unfold fetchField at h
  split at h
  · next hr =>
    refine .of_deliver hf ?_ h
    obtain ⟨_, h⟩ | ⟨m, _, _, ⟨_, h⟩ | ⟨hle, h⟩⟩ := State.readUint_cases hr <;> cases h
    exact ⟨_, rfl, Nat.le_add_right _ _, fun _ => hle⟩
  · cases h

theorem fetchSymbol_instr {s u : State} {f : Format} {tbl : Table} {i : Instr} (hf : f ≠ .storedPad)
    (h : fetchSymbol s f tbl = .instr i u) : FetchedElement s i u := by
  unfold fetchSymbol at h
  split at h
  · next hr => exact .of_deliver hf (State.decodeSymbol_withPos hr) h
  · cases h

theorem fetchKey_instr {s u : State} {f : Format} {tbl : Table} {i : Instr} (hf : f ≠ .storedPad)
    (h : fetchKey s f tbl = .instr i u) : FetchedElement s i u := by
  unfold fetchKey at h
  split at h
  · next hr => exact .of_deliver hf (State.decodeSymbol_withPos hr) h
  · cases h

/-- Between runs a fetch finds the oldest command presented. -/
theorem fetch_instr_of_idle {s u : State} {i : Instr} (hp : s.phase = .idle) (h : fetch s = .instr i u) :
    isCommand i ∧ ∃ rest, u = { s with port := rest } := by
  simp only [fetch, hp] at h
  split at h
  · cases h
  · next c rest _ =>
    obtain ⟨hd, rfl⟩ := deliver_instr h
    cases hd
    exact ⟨isCommand_decodeCommand c, rest, by rw [hp]⟩

/-- Inside a run a fetch finds the stream element whose place it is. -/
theorem fetch_instr_of_running {s u : State} {i : Instr} (hp : s.phase ≠ .idle) (h : fetch s = .instr i u) :
    FetchedElement s i u := by
  unfold fetch at h
  cases hph : s.phase <;> simp only [hph] at h
  case idle => exact absurd hph hp
  case header => exact fetchField_instr (by decide) h
  case storedPad =>
    obtain ⟨hd, hu⟩ := deliver_instr h
    cases hd
    exact ⟨⟨s.pos, hu, Nat.le_refl _, id⟩, .storedPad, 0, rfl, by decide⟩
  case storedLen => exact fetchField_instr (by decide) h
  case storedNlen => exact fetchField_instr (by decide) h
  case storedData => exact fetchField_instr (by decide) h
  case preHlit => exact fetchField_instr (by decide) h
  case preHdist => exact fetchField_instr (by decide) h
  case preHclen => exact fetchField_instr (by decide) h
  case preCll => exact fetchField_instr Format.noConfusion h
  case codeLength => exact fetchSymbol_instr (by decide) h
  case symbol =>
    split at h
    · exact fetchKey_instr (by decide) h
    · exact fetchSymbol_instr (by decide) h
  case distance =>
    split at h
    · exact fetchKey_instr (by decide) h
    · exact fetchSymbol_instr (by decide) h

/-- A fetched stream element runs with the invariant and keeps it. -/
theorem State.Inv.exec_fetchedElement {s u t : State} (h : s.Inv) {i : Instr} (hf : FetchedElement s i u)
    (he : exec i u = .next t) : t.Inv := by
  obtain ⟨⟨p, rfl, _, hp⟩, f, w, hi, hw⟩ := hf
  exact (h.withPos (hp h.pos_le)).exec_element hi hw he

/-- Every step keeps the invariant: the core waits, takes a fault, or runs what it fetched. -/
theorem State.Inv.step {s t : State} (h : s.Inv) (hs : step s = .next t) : t.Inv := by
  unfold Machine.step at hs
  split at hs
  · cases hs; exact h
  · next hf =>
    by_cases hp : s.phase = .idle
    · obtain ⟨hi, rest, rfl⟩ := fetch_instr_of_idle hp hf
      have hu : ({ s with port := rest } : State).Inv := { h with }
      exact hu.exec_command hp hi hs
    · exact h.exec_fetchedElement (fetch_instr_of_running hp hf) hs
  · cases hs; exact h.takeFault _

end Sys2Proof.Machine
end

section
/-! PROOFS. The status registers as CSR.RD shows them (spec/10_state.md R27): what each register's fields are. -/

namespace Sys2Proof.Machine

theorem BdState.code_le (b : BdState) : b.code ≤ 5 := by cases b <;> decide

theorem FaultKind.code_le (k : FaultKind) : k.code ≤ 16 := by cases k <;> decide

theorem State.errCode_le (s : State) : s.errCode ≤ 16 := by
  unfold State.errCode
  split
  · exact Nat.zero_le _
  · exact FaultKind.code_le _

/-- Outside FAILED, CSR.RD answers the register and changes nothing (R27, R215). -/
theorem exec_csrRd_of_not_failed {s : State} (hf : s.bdState ≠ .failed) {n : Nat} (hn : n ≤ 5) :
    exec (.csrRd n) s = .next (s.respondOk (s.register n)) := by
  have hok : registerOk n = true := by
    simp only [registerOk, inRange, Bool.and_eq_true, decide_eq_true_eq]; omega
  change execCsrRd n s = _
  rw [execCsrRd, if_pos hok, if_neg hf]
  rfl

/-- Register 0 holds its fields side by side; bits 14 and up are 0 (R27). -/
theorem State.statusRegister_fields (s : State) (ht : s.type < 4) :
    s.statusRegister < 16384 ∧ s.statusRegister % 8 = s.bdState.code ∧ s.statusRegister / 8 % 32 = s.errCode ∧
      s.statusRegister / 256 % 2 = s.final.toNat ∧ s.statusRegister / 512 % 4 = s.type ∧
      s.statusRegister / 2048 % 2 = s.distPresent.toNat ∧ s.statusRegister / 4096 % 2 = s.eof.toNat ∧
      s.statusRegister / 8192 % 2 = s.aligned.toNat := by
  have hst := s.bdState.code_le
  have herr := s.errCode_le
  have hfin := s.final.toNat_le
  have hdp := s.distPresent.toNat_le
  have heof := s.eof.toNat_le
  have hal := s.aligned.toNat_le
  unfold State.statusRegister State.statusLow
  omega

/-- Register 4 holds CUR and CNT (R27). -/
theorem State.winStatRegister_fields (s : State) (hcur : s.cur < 32768) (hcnt : s.cnt ≤ 32768) :
    s.winStatRegister < 2 ^ 32 ∧ s.winStatRegister % 32768 = s.cur ∧ s.winStatRegister / 32768 % 2 = 0 ∧
      s.winStatRegister / 65536 = s.cnt := by
  unfold State.winStatRegister
  omega

/-- Register 5 holds the counts of the preamble; bits 29 and up are 0 (R27). -/
theorem State.dynRegister_fields (s : State) (hnlit : s.nlit ≤ 288) (hndist : s.ndist ≤ 32) (hnclen : s.nclen ≤ 19)
    (hcnt : s.lenCnt ≤ 320) :
    s.dynRegister < 536870912 ∧ s.dynRegister % 512 = s.nlit ∧ s.dynRegister / 512 % 64 = s.ndist ∧
      s.dynRegister / 32768 % 32 = s.nclen ∧ s.dynRegister / 1048576 % 512 = s.lenCnt := by
  unfold State.dynRegister
  omega

theorem State.eof_toNat (s : State) : s.eof.toNat = 1 ↔ s.pos = 8 * s.inLen := by
  simp [State.eof]

theorem State.aligned_toNat (s : State) : s.aligned.toNat = 1 ↔ s.pos % 8 = 0 := by
  simp [State.aligned]

end Sys2Proof.Machine
end

section
/-! PROOFS. The statements about the state (spec/10_state.md): O4, O38, O40, O41, O42, O54, O55. -/

open Sys2Proof Sys2Proof.Machine

/-- Settles O4: the byte that holds bit `p` is the one `bitAt` divides. -/
theorem bitsOfAByteAreReadLsbFirst : Obligations.BitsOfAByteAreReadLsbFirst := by
  refine ⟨fun inp p b hb => ?_, by decide⟩
  unfold bitAt
  rw [List.getD_eq_getElem?_getD, hb, Option.getD_some]

/-- Settles O40: RESET and fault entry keep IN and give or keep the fixed tables, and everything else leads onward. -/
theorem noInstructionWritesInOrTheFixedTables : Obligations.NoInstructionWritesInOrTheFixedTables := by
  intro i s t hLL hD h
  by_cases hr : i = .reset
  · subst hr; cases h; exact ⟨rfl, rfl, rfl⟩
  by_cases hb : i = .bdRun
  · subst hb
    obtain rfl | ho | ⟨u, k, ho, rfl⟩ := exec_bdRun_cases h
    · exact ⟨rfl, hLL, hD⟩
    · exact ⟨ho.inp, ho.fixedLL.trans hLL, ho.fixedD.trans hD⟩
    · exact ⟨ho.inp, ho.fixedLL.trans hLL, ho.fixedD.trans hD⟩
  · obtain ho | ⟨k, rfl⟩ := exec_onward_or_fault hr hb h
    · exact ⟨ho.inp, ho.fixedLL.trans hLL, ho.fixedD.trans hD⟩
    · exact ⟨rfl, hLL, hD⟩

/-- Settles O41: outside the initialisations every instruction leads onward or to fault entry. -/
theorem posOnlyMovesForward : Obligations.PosOnlyMovesForward := by
  intro i s t hr hb _ hpos h hnf
  obtain ho | ⟨k, rfl⟩ := exec_onward_or_fault hr hb h
  · exact ⟨ho.pos, by rw [State.inLen, ho.inp]; exact ho.bound hpos⟩
  · exact absurd rfl hnf

/-- Settles O42: as O41, by what `Onward` says of OUT. -/
theorem outIsAppendOnly : Obligations.OutIsAppendOnly := by
  intro i s t hr hb _ h hnf
  obtain ho | ⟨k, rfl⟩ := exec_onward_or_fault hr hb h
  · exact ho.out
  · exact absurd rfl hnf

/-- Settles O55: whatever the host supplies. -/
theorem resetHasTheInvariant : Obligations.ResetHasTheInvariant := State.Inv.reset_withHost

/-- Settles O54: by the cases of a fetch, and then of the command or stream element it finds. -/
theorem stepKeepsTheInvariant : Obligations.StepKeepsTheInvariant := fun _ _ => State.Inv.step

/-- Settles O38: register by register, from the fields each holds. -/
theorem csrRdShowsTheListedFields : Obligations.CsrRdShowsTheListedFields := by
  intro s hf ht hcur hcnt hnlit hndist hnclen hlen n hn
  refine ⟨BitVec.ofNat 32 (s.register n), exec_csrRd_of_not_failed hf hn, ?_, ?_, ?_, ?_, ?_, ?_⟩
  all_goals rintro rfl; rw [BitVec.toNat_ofNat]; simp only [State.register]
  · obtain ⟨hlt, h1, h2, h3, h4, h5, h6, h7⟩ := s.statusRegister_fields ht
    rw [Nat.mod_eq_of_lt (Nat.lt_trans hlt (by decide)), h6, h7]
    exact ⟨h1, h2, h3, h4, h5, s.eof_toNat, s.aligned_toNat, by omega⟩
  · exact Nat.mod_mod _ _
  · exact Nat.mod_mod _ _
  · exact Nat.mod_mod _ _
  · obtain ⟨hlt, h⟩ := s.winStatRegister_fields hcur hcnt
    rwa [Nat.mod_eq_of_lt hlt]
  · obtain ⟨hlt, h1, h2, h3, h4⟩ := s.dynRegister_fields hnlit hndist hnclen hlen
    rw [Nat.mod_eq_of_lt (Nat.lt_trans hlt (by decide))]
    exact ⟨h1, h2, h3, h4, by omega⟩

end

section
/-! PROOFS. The statement about reading from memory (spec/20_memory.md): O5. -/

namespace Sys2Proof.Machine

/-- What a successful ReadUint has found: the bits are there, and it answers their number and moves past them (R92). -/
theorem State.eq_of_readUint_eq_ok {s t : State} {n v : Nat} (h : s.readUint n = .ok (v, t)) :
    s.pos + n ≤ 8 * s.inLen ∧ v = bitsAt s.inp s.pos n ∧ t = s.withPos (s.pos + n) := by
  obtain ⟨_, hr⟩ | ⟨m, hm, _, ⟨_, hr⟩ | ⟨hle, hr⟩⟩ := State.readUint_cases h
  · cases hr
  · cases hr
  · cases hm
    cases hr
    exact ⟨hle, rfl, rfl⟩

end Sys2Proof.Machine

open Sys2Proof Sys2Proof.Machine

/-- Settles O5: the field of `a + b` bits is two adjacent fields, and the second read shows that all its bits are there. -/
theorem readUintSplits : Obligations.ReadUintSplits := by
  intro s t u a b v w hab ha hb
  obtain ⟨-, rfl, rfl⟩ := State.eq_of_readUint_eq_ok ha
  obtain ⟨hle, rfl, rfl⟩ := State.eq_of_readUint_eq_ok hb
  have hend : s.pos + (a + b) ≤ 8 * s.inLen := by rw [← Nat.add_assoc]; exact hle
  rw [State.readUint_ok hab hend, bitsAt_add, ← Nat.add_assoc]
  rfl

end

section
/-! PROOFS. Operands with extra bits (spec/30_encoding.md R69, R70) and the copy of a back-reference (R158, R131): what
ReadUint adds to a run length or a distance, and what CopyBack leaves in OUT and in the window. -/

namespace Sys2Proof.Machine

/-- With its extra bits in IN, an operand is its base plus their number (R43). -/
theorem State.addExtra_ok {s : State} {e : Nat} (b : Nat) (he : e ≤ 31) (h : s.pos + e ≤ 8 * s.inLen) :
    s.addExtra b e =
      .ok (b + ∑ k ∈ Finset.range e, bitAt s.inp (s.pos + k) * 2 ^ k, s.withPos (s.pos + e)) := by
  rw [State.addExtra, State.readUint_ok he h, bitsAt_eq_sum]

/-! ### Run lengths -/

theorem State.runLength_short (s : State) {sym : Nat} (h : sym ≤ 264) : s.runLength sym = .ok (sym - 254, s) := if_pos h

theorem State.runLength_extra {s : State} {sym e : Nat} (h1 : 265 ≤ sym) (h2 : sym ≤ 284) (he : e = (sym - 261) / 4)
    (hend : s.pos + e ≤ 8 * s.inLen) :
    s.runLength sym = .ok (((sym - 265) % 4 + 4) * 2 ^ e + 3 +
      ∑ k ∈ Finset.range e, bitAt s.inp (s.pos + k) * 2 ^ k, s.withPos (s.pos + e)) := by
  have hext : lengthExtraBits sym = e := he.symm
  rw [State.runLength, if_neg (by omega), if_pos h2, lengthBase, hext, State.addExtra_ok _ (by omega) hend]

theorem State.runLength_longest (s : State) : s.runLength 285 = .ok (258, s) := rfl

/-- A length symbol whose run length is in range, in a block with a distance code: the distance symbol is next (R158). -/
theorem State.lengthSymbol_of_runLength {s t : State} {sym run : Nat} (h : s.runLength sym = .ok (run, t))
    (h1 : 3 ≤ run) (h2 : run ≤ 258) (hd : t.distPresent = true) :
    s.lengthSymbol sym = .ok (t.goto (.distance run)) := by
  rw [State.lengthSymbol, h]
  dsimp only
  rw [if_neg (by omega), if_pos hd]

/-- Where a literal/length symbol is read, symbols 257 to 287 are length symbols. -/
theorem literalLengthElement_length {s : State} {sym : Nat} (hp : s.phase = .symbol) (h1 : 257 ≤ sym)
    (h2 : sym ≤ 287) : literalLengthElement sym s = finish s (s.lengthSymbol sym) := by
  have hb : (s.phase == .symbol) = true := beq_iff_eq.mpr hp
  rw [literalLengthElement, hb, inPlace_true, State.literalLengthSymbol, if_neg (by omega), if_neg (by omega),
    if_pos h2]

/-- A row of a length symbol whose run length is in range, in a block with a distance code. -/
theorem exec_length_of_runLength {i : Instr} {s t : State} {sym run : Nat} (hi : standsForLiteralLength i s sym)
    (hp : s.phase = .symbol) (hs1 : 257 ≤ sym) (hs2 : sym ≤ 287) (h : s.runLength sym = .ok (run, t))
    (h1 : 3 ≤ run) (h2 : run ≤ 258) (hd : t.distPresent = true) : exec i s = .next (t.goto (.distance run)) := by
  rw [exec_of_standsForLiteralLength hi, literalLengthElement_length hp hs1 hs2,
    State.lengthSymbol_of_runLength h h1 h2 hd]
  rfl

/-- R160 for the length symbols with extra bits: the run length is in 3..258, whatever the extra bits are. -/
theorem runLength_extra_range {sym e v : Nat} (h1 : 265 ≤ sym) (h2 : sym ≤ 284) (he : e = (sym - 261) / 4)
    (hv : v < 2 ^ e) : 3 ≤ ((sym - 265) % 4 + 4) * 2 ^ e + 3 + v ∧ ((sym - 265) % 4 + 4) * 2 ^ e + 3 + v ≤ 258 := by
  obtain h | h | h | h | h : e = 1 ∨ e = 2 ∨ e = 3 ∨ e = 4 ∨ e = 5 := by omega
  all_goals subst h; norm_num at hv ⊢; omega

/-! ### Distances -/

theorem State.distanceOf_short (s : State) {sym : Nat} (h : sym ≤ 3) : s.distanceOf sym = .ok (sym + 1, s) := if_pos h

theorem State.distanceOf_extra {s : State} {sym e : Nat} (h1 : 4 ≤ sym) (h2 : sym ≤ 29) (he : e = sym / 2 - 1)
    (hend : s.pos + e ≤ 8 * s.inLen) :
    s.distanceOf sym = .ok ((sym % 2 + 2) * 2 ^ e + 1 + ∑ k ∈ Finset.range e, bitAt s.inp (s.pos + k) * 2 ^ k,
      s.withPos (s.pos + e)) := by
  have hext : distanceExtraBits sym = e := he.symm
  rw [State.distanceOf, if_neg (by omega), if_pos h2, distanceBase, hext, State.addExtra_ok _ (by omega) hend]

/-! ### The copy -/

/-- CopyBack at a distance within the window reads from `distance` bytes behind the cursor (R131). -/
theorem State.copyBack_ok {s : State} {d : Nat} (l : Nat) (h1 : 1 ≤ d) (hd : d ≤ s.cnt) (hcnt : s.cnt ≤ 32768)
    (hcur : s.cur < 32768) : s.copyBack d l = .ok (copyLoop s ((s.cur + 32768 - d) % 32768) l) := by
  obtain ⟨_, _⟩ | ⟨_, _, _, _⟩ | ⟨_, _, _, h⟩ := State.copyBack_cases (rfl : s.copyBack d l = _)
  · omega
  · omega
  · have hr : (((s.cur : Int) - d) % 32768).toNat = (s.cur + 32768 - d) % 32768 := by omega
    exact h.trans (by rw [← hr]; rfl)

/-- The state after a copy, but for the cells of the window (R131, R132). -/
theorem copyLoop_eq {s : State} {d r : Nat} (l : Nat) (h1 : 1 ≤ d) (hd : d ≤ 32768) (hcnt : s.cnt ≤ 32768)
    (hcur : s.cur < 32768) (hr : r = (s.cur + 32768 - d) % 32768) :
    copyLoop s r l = { s with
      out := s.out ++ (List.range l).map (copyByte s d), win := (copyLoop s r l).win
      cur := (s.cur + l) % 32768, cnt := min (s.cnt + l) 32768 } := by
  rw [← (copyLoop_spec s d l r h1 hd hcur hr).1, ← copyLoop_cur s r l hcur, ← copyLoop_cnt s r l hcnt]
  exact copyLoop_frame s r l

/-- A distance symbol whose distance is within the window copies the run (R158). -/
theorem State.distanceSymbol_of_distanceOf {s t : State} {sym d : Nat} (run : Nat) (h : s.distanceOf sym = .ok (d, t))
    (h1 : 1 ≤ d) (hd : d ≤ t.cnt) (hcnt : t.cnt ≤ 32768) (hcur : t.cur < 32768) :
    s.distanceSymbol run sym = .ok ((copyLoop t ((t.cur + 32768 - d) % 32768) run).goto .symbol) := by
  rw [State.distanceSymbol, h]
  dsimp only
  rw [if_neg (by omega), State.copyBack_ok run h1 hd hcnt hcur]

theorem distanceElement_of_phase {s : State} {run : Nat} (h : s.phase = .distance run) (sym : Nat) :
    distanceElement sym s = finish s (s.distanceSymbol run sym) := by
  rw [distanceElement, h]

/-- Distance symbols 0 to 29: the distance of R70, from the symbol and the extra bits behind it. -/
theorem State.distanceOf_eq {s : State} {sym e d : Nat} (h29 : sym ≤ 29) (he : e = if sym ≤ 3 then 0 else sym / 2 - 1)
    (hd : d = if sym ≤ 3 then sym + 1
      else (sym % 2 + 2) * 2 ^ e + 1 + ∑ k ∈ Finset.range e, bitAt s.inp (s.pos + k) * 2 ^ k)
    (hend : s.pos + e ≤ 8 * s.inLen) : s.distanceOf sym = .ok (d, s.withPos (s.pos + e)) ∧ 1 ≤ d := by
  by_cases h3 : sym ≤ 3
  · rw [if_pos h3] at he hd
    subst he hd
    exact ⟨s.distanceOf_short h3, Nat.le_add_left 1 sym⟩
  · rw [if_neg h3] at he hd
    exact ⟨hd ▸ State.distanceOf_extra (by omega) h29 he hend, by omega⟩

end Sys2Proof.Machine

open Sys2Proof Sys2Proof.Machine

/-- Settles O24: the distance is that of R70, and the copy runs in the state whose POS is behind the extra bits. -/
theorem distanceSymbolsCopyTheRun : Obligations.DistanceSymbolsCopyTheRun := by
  intro i s run sym e d hi hp h29 he hd hend hcnt hcap hcur
  obtain ⟨hdist, h1⟩ := State.distanceOf_eq h29 he hd hend
  have hd2 : d ≤ 32768 := Nat.le_trans hcnt hcap
  obtain ⟨-, hcopied, hkept⟩ := copyLoop_spec (s.withPos (s.pos + e)) d run _ h1 hd2 hcur rfl
  refine ⟨(copyLoop (s.withPos (s.pos + e)) ((s.cur + 32768 - d) % 32768) run).goto .symbol, ?_, ?_, hcopied, hkept⟩
  · rw [exec_of_standsForDistance hi, distanceElement_of_phase hp,
      State.distanceSymbol_of_distanceOf run hdist h1 hcnt hcap hcur]
    rfl
  · exact congrArg (State.goto · .symbol) (copyLoop_eq (s := s.withPos (s.pos + e)) run h1 hd2 hcap hcur rfl)

/-- Settles O22: in each of the three ranges the run length is in 3..258, so the distance symbol comes next. -/
theorem lengthSymbolsComputeTheRunLength : Obligations.LengthSymbolsComputeTheRunLength := by
  intro i s sym hi hp hdist
  refine ⟨fun h1 h2 => ?_, fun e h1 h2 he hend => ?_, fun h => ?_⟩
  · exact exec_length_of_runLength hi hp h1 (by omega) (s.runLength_short h2) (by omega) (by omega) hdist
  · have hv := bitsAt_lt s.inp s.pos e
    rw [bitsAt_eq_sum] at hv
    obtain ⟨h3, h258⟩ := runLength_extra_range h1 h2 he hv
    exact exec_length_of_runLength hi hp (by omega) (by omega) (State.runLength_extra h1 h2 he hend) h3 h258 hdist
  · subst h
    exact exec_length_of_runLength hi hp (by decide) (by decide) s.runLength_longest (by decide) (by decide) hdist

end

section
/-! PROOFS. Decoding inverts encoding (spec/30_encoding.md R61 to R74): command operands are read back, every row is found
at its number, and what is decoded is well formed. -/

namespace Sys2Proof

/-! ### Operands -/

theorem operandOk_iff {x : Int} : operandOk x = true ↔ -2147483648 ≤ x ∧ x < 2147483648 := by
  simp [operandOk, inRange]

/-- A 32-bit operand is read back as the integer it encodes (R61). -/
theorem toInt_ofInt_of_operandOk {x : Int} (h : operandOk x = true) : (BitVec.ofInt 32 x).toInt = x := by
  obtain ⟨h1, h2⟩ := operandOk_iff.mp h
  exact BitVec.toInt_ofInt_eq_self (by decide) h1 h2

theorem operandOk_toInt (x : Word) : operandOk x.toInt = true :=
  operandOk_iff.mpr ⟨x.le_toInt, x.toInt_lt⟩

theorem fieldOk_iff {width x : Nat} : fieldOk width x = true ↔ x < 2 ^ width := decide_eq_true_iff

/-! ### From an instruction to its encoding and back -/

theorem decodeField_of_fieldOk {width w : Nat} (mk : Nat → Instr) (why : Reject) (h : fieldOk width w = true) :
    decodeField width mk why w = .ok (mk w) := if_pos (fieldOk_iff.mp h)

theorem decode_preCll (group : Nat) {v : Nat} (h : fieldOk 3 v = true) :
    decode (.element (.preCll group) v) = groupRow group v := if_pos (fieldOk_iff.mp h)

/-- Every row: operands are read back, and a row without operands stands at its number (the kernel looks it up there: an
elaborator's `rfl` for each of the rows costs far more memory). -/
theorem decode_encode {i : Instr} (h : i.wf = true) : decode (encode i) = .ok i := by
  cases i
  case brRdu n => exact congrArg (Except.ok ∘ Instr.brRdu) (toInt_ofInt_of_operandOk h)
  case hcDec slot => exact congrArg (Except.ok ∘ Instr.hcDec) (toInt_ofInt_of_operandOk h)
  case swApp byte => exact congrArg (Except.ok ∘ Instr.swApp) (toInt_ofInt_of_operandOk h)
  case csrRd number => exact congrArg (Except.ok ∘ Instr.csrRd) (toInt_ofInt_of_operandOk h)
  case swCpy distance length =>
    obtain ⟨hd, hl⟩ := Bool.and_eq_true_iff.mp h
    exact congrArg₂ (Except.ok <| Instr.swCpy · ·) (toInt_ofInt_of_operandOk hd) (toInt_ofInt_of_operandOk hl)
  case lbSet index value =>
    obtain ⟨hi, hv⟩ := Bool.and_eq_true_iff.mp h
    exact congrArg₂ (Except.ok <| Instr.lbSet · ·) (toInt_ofInt_of_operandOk hi) (toInt_ofInt_of_operandOk hv)
  case hcBld slot base count =>
    obtain ⟨hsb, hc⟩ := Bool.and_eq_true_iff.mp h
    obtain ⟨hs, hb⟩ := Bool.and_eq_true_iff.mp hsb
    show Except.ok (Instr.hcBld (BitVec.ofInt 32 slot).toInt (BitVec.ofInt 32 base).toInt
      (BitVec.ofInt 32 count).toInt) = _
    rw [toInt_ofInt_of_operandOk hs, toInt_ofInt_of_operandOk hb, toInt_ofInt_of_operandOk hc]
  case hdrStored final | hdrFixed final | hdrDynamic final | hdrReserved final => cases final <;> rfl
  case storedLen w | storedNlen w | storedData w | preHlit w | preHdist w | preHclen w =>
    exact decodeField_of_fieldOk _ _ h
  case lit byte => exact if_pos (fieldOk_iff.mp h)
  case preCll0 v | preCll1 v | preCll2 v | preCll3 v | preCll4 v | preCll5 v | preCll6 v | preCll7 v | preCll8 v |
      preCll9 v | preCll10 v | preCll11 v | preCll12 v | preCll13 v | preCll14 v | preCll15 v | preCll16 v |
      preCll17 v | preCll18 v =>
    exact decode_preCll _ h
  all_goals decide +kernel

/-! ### From a number to its instruction and back -/

theorem wf_of_rowOr {rows : List Instr} (hr : rows.all Instr.wf = true) {n : Nat} {why : Reject} {i : Instr}
    (h : rowOr rows n why = .ok i) : i.wf = true :=
  List.all_eq_true.mp hr i (List.mem_of_getElem? (rowOr_ok h))

theorem lengthRows_wf : lengthRows.all Instr.wf = true := rfl

theorem distanceRows_wf : distanceRows.all Instr.wf = true := rfl

theorem codeLengthRows_wf : codeLengthRows.all Instr.wf = true := rfl

theorem fixedLLRows_wf : fixedLLRows.all Instr.wf = true := by
  simp only [fixedLLRows, List.all_append, Bool.and_eq_true]
  and_intros <;> rfl

theorem fixedDRows_wf : fixedDRows.all Instr.wf = true := rfl

theorem wf_of_decodeHeader {w : Nat} {i : Instr} (h : decodeHeader w = .ok i) : i.wf = true := by
  unfold decodeHeader at h
  split at h <;> cases h <;> rfl

theorem wf_of_decodeLiteralLength {w : Nat} {i : Instr} (h : decodeLiteralLength w = .ok i) : i.wf = true := by
  unfold decodeLiteralLength at h
  split at h
  · next hw => cases h; exact fieldOk_iff.mpr hw
  split at h
  · cases h; rfl
  · exact wf_of_rowOr lengthRows_wf h

theorem wf_of_groupRow {group v : Nat} (hv : v < 8) {i : Instr} (h : groupRow group v = .ok i) : i.wf = true := by
  unfold groupRow at h
  split at h <;> cases h <;> exact fieldOk_iff.mpr hv

theorem wf_of_decode_element {f : Format} {w : Nat} {i : Instr} (h : decode (.element f w) = .ok i) :
    i.wf = true := by
  cases f with
  | hdr => exact wf_of_decodeHeader h
  | storedPad => cases h; rfl
  | storedLen | storedNlen | storedData | preHlit | preHdist | preHclen =>
    obtain ⟨hw, rfl⟩ := decodeField_ok h
    exact fieldOk_iff.mpr hw
  | llSymbol => exact wf_of_decodeLiteralLength h
  | dSymbol => exact wf_of_rowOr distanceRows_wf h
  | preCll group =>
    dsimp only [decode, decodeElement] at h
    split at h
    · next hw => exact wf_of_groupRow hw h
    · cases h
  | clSymbol => exact wf_of_rowOr codeLengthRows_wf h
  | fixedLL =>
    dsimp only [decode, decodeElement] at h
    split at h
    · exact wf_of_rowOr fixedLLRows_wf h
    · cases h
  | fixedD =>
    dsimp only [decode, decodeElement] at h
    split at h
    · exact wf_of_rowOr fixedDRows_wf h
    · cases h

theorem wf_decodeCommand (c : Command) : (decodeCommand c).wf = true := by
  have h1 (x : Word) : operandOk x.toInt = true := operandOk_toInt x
  have h2 (x y : Word) : (operandOk x.toInt && operandOk y.toInt) = true := Bool.and_eq_true_iff.mpr ⟨h1 x, h1 y⟩
  unfold decodeCommand
  split
  case h_4 => exact h1 c.a
  case h_5 => exact Bool.and_eq_true_iff.mpr ⟨h2 c.a c.b, h1 c.c⟩
  case h_6 => exact h1 c.a
  case h_7 => exact h1 c.a
  case h_8 => exact h2 c.a c.b
  case h_10 => exact h2 c.a c.b
  case h_11 => exact h1 c.a
  all_goals rfl

/-- No two well-formed instructions have the same encoding. -/
theorem eq_of_encode_eq {i j : Instr} (hi : i.wf = true) (hj : j.wf = true) (h : encode j = encode i) : j = i :=
  Except.ok.inj ((decode_encode hj).symm.trans (h ▸ decode_encode hi))

end Sys2Proof

open Sys2Proof Sys2Proof.Machine

/-- Settles O56, row by row. -/
theorem decodeInvertsEncode : Obligations.DecodeInvertsEncode := fun _ => decode_encode

/-- Settles O57: what is decoded is well formed and has that encoding; `encode` is injective on well-formed
instructions, because decoding inverts it. -/
theorem encodeInvertsDecode : Obligations.EncodeInvertsDecode := by
  refine ⟨fun f w i hf h => ?_, fun c i h => ?_⟩
  · have hi := wf_of_decode_element h
    obtain ⟨-, he⟩ := encode_of_decode_element hf h
    exact ⟨hi, he, fun j hj hje => eq_of_encode_eq hi hj (hje.trans he.symm)⟩
  · cases h
    exact ⟨wf_decodeCommand c, isCommand_decodeCommand c⟩

/-- Settles O58: each of the words, evaluated. -/
theorem writtenOutWordsDecode : Obligations.WrittenOutWordsDecode := by
  unfold Obligations.WrittenOutWordsDecode
  decide

/-- Settles O12: Build evaluated on both lists of lengths. -/
theorem fixedTablesHaveTheListedCodewords : Obligations.FixedTablesHaveTheListedCodewords := by
  refine ⟨?_, ?_, fixedLLTable_eq, fixedDTable_eq⟩
  · decide +kernel
  · decide +kernel

end

section
/-! PROOFS. What a step fetches (spec/30_encoding.md R61, R68): the oldest command between runs; inside a run the field,
the padding or the codeword that stands at POS. -/

namespace Sys2Proof.Machine

theorem step_of_fetch_instr {s t : State} {i : Instr} (h : fetch s = .instr i t) : step s = exec i t := by
  rw [step, h]

theorem step_of_fetch_fault {s : State} {k : FaultKind} (h : fetch s = .fault k) : step s = .next (s.takeFault k) := by
  rw [step, h]

theorem deliver_of_decode {e : Encoded} {i : Instr} (h : decode e = .ok i) (t : State) : deliver e t = .instr i t := by
  rw [deliver, h]

/-! ### Fields -/

theorem fetch_of_fieldOfPhase {s : State} {f : Format} {n : Nat} (h : fieldOfPhase s.phase = some (f, n)) :
    fetch s = fetchField s f n := by
  unfold fetch
  cases hp : s.phase <;> simp only [hp, fieldOfPhase] at h <;> cases h <;> rfl

theorem fieldOfPhase_width_le {p : Phase} {f : Format} {n : Nat} (h : fieldOfPhase p = some (f, n)) : n ≤ 31 := by
  cases p <;> cases h <;> decide

theorem fetchField_found {s : State} {f : Format} {n : Nat} {i : Instr} (hn : n ≤ 31) (h : s.pos + n ≤ 8 * s.inLen)
    (hd : decode (.element f (bitsAt s.inp s.pos n)) = .ok i) :
    fetchField s f n = .instr i (s.withPos (s.pos + n)) := by
  rw [fetchField, State.readUint_ok hn h]
  exact deliver_of_decode hd _

theorem fetchField_end {s : State} {n : Nat} (f : Format) (hn : n ≤ 31) (h : 8 * s.inLen < s.pos + n) :
    fetchField s f n = .fault .unexpectedEndOfStream := by
  rw [fetchField, State.readUint_end hn h]

/-! ### Codewords -/

theorem fetchSymbol_found {s : State} {f : Format} {t : Table} {len sym : Nat} {i : Instr}
    (h : s.codewordHere t len sym) (hd : decode (.element f sym) = .ok i) :
    fetchSymbol s f t = .instr i (s.withPos (s.pos + len)) := by
  rw [fetchSymbol, State.decodeSymbol_of_codewordHere h]
  exact deliver_of_decode hd _

theorem fetchKey_found {s : State} {f : Format} {t : Table} {len sym : Nat} {i : Instr} (h : s.codewordHere t len sym)
    (hd : decode (.element f (codeKey len (codewordAt s.inp s.pos len))) = .ok i) :
    fetchKey s f t = .instr i (s.withPos (s.pos + len)) := by
  rw [fetchKey, State.decodeSymbol_of_codewordHere h]
  exact deliver_of_decode hd _

theorem fetchSymbol_end {s : State} {t : Table} {k : FaultKind} (f : Format) (h : s.decodeSymbol t = .error k) :
    fetchSymbol s f t = .fault k := by
  rw [fetchSymbol, h]

theorem fetchKey_end {s : State} {t : Table} {k : FaultKind} (f : Format) (h : s.decodeSymbol t = .error k) :
    fetchKey s f t = .fault k := by
  rw [fetchKey, h]

/-! ### The table at each place -/

theorem fetch_codeLength {s : State} {t : Table} (hp : s.phase = .codeLength) (ht : s.tblClc = some t) :
    fetch s = fetchSymbol s .clSymbol t := by
  simp [fetch, hp, ht]

theorem fetch_symbol_dynamic {s : State} {t : Table} (hp : s.phase = .symbol) (hb : s.bdState = .dynamicHuffmanBlock)
    (ht : s.tblDynLL = some t) : fetch s = fetchSymbol s .llSymbol t := by
  simp [fetch, State.tableInForce, hp, hb, ht]

theorem fetch_symbol_fixed {s : State} {t : Table} (hp : s.phase = .symbol) (hb : s.bdState = .fixedHuffmanBlock)
    (ht : s.tblFixedLL = some t) : fetch s = fetchKey s .fixedLL t := by
  simp [fetch, State.tableInForce, hp, hb, ht]

theorem fetch_distance_dynamic {s : State} {t : Table} {run : Nat} (hp : s.phase = .distance run)
    (hb : s.bdState = .dynamicHuffmanBlock) (ht : s.tblDynD = some t) : fetch s = fetchSymbol s .dSymbol t := by
  simp [fetch, State.distanceTableInForce, hp, hb, ht]

theorem fetch_distance_fixed {s : State} {t : Table} {run : Nat} (hp : s.phase = .distance run)
    (hb : s.bdState = .fixedHuffmanBlock) (ht : s.tblFixedD = some t) : fetch s = fetchKey s .fixedD t := by
  simp [fetch, State.distanceTableInForce, hp, hb, ht]

/-- Wherever a codeword of a table is next, a Decode that fails makes the fetch fail. -/
theorem fetch_of_decodesWith_error {s : State} {t : Table} {k : FaultKind} (h : s.decodesWith t)
    (he : s.decodeSymbol t = .error k) : fetch s = .fault k := by
  obtain ⟨hp, ht⟩ | ⟨hp, hb, ht⟩ | ⟨run, hp, hb, ht⟩ | ⟨hp, hb, ht⟩ | ⟨run, hp, hb, ht⟩ := h
  · exact (fetch_codeLength hp ht).trans (fetchSymbol_end _ he)
  · exact (fetch_symbol_dynamic hp hb ht).trans (fetchSymbol_end _ he)
  · exact (fetch_distance_dynamic hp hb ht).trans (fetchSymbol_end _ he)
  · exact (fetch_symbol_fixed hp hb ht).trans (fetchKey_end _ he)
  · exact (fetch_distance_fixed hp hb ht).trans (fetchKey_end _ he)

end Sys2Proof.Machine

open Sys2Proof Sys2Proof.Machine

/-- Settles O50: between runs a fetch looks at the port alone. -/
theorem stepRunsTheCommandPresented : Obligations.StepRunsTheCommandPresented := by
  refine fun s hp => ⟨fun c rest i hport hd => step_of_fetch_instr ?_, fun hport => ?_⟩
  · simp only [fetch, hp, hport]
    exact deliver_of_decode hd _
  · simp [step, fetch, hp, hport]

/-- Settles O51: at each place, what the fetch finds there. -/
theorem stepRunsTheElementAtPos : Obligations.StepRunsTheElementAtPos := by
  intro s i
  refine ⟨fun f n hf => ⟨fun hle hd => ?_, fun hlt => ?_⟩, fun hp => ?_, fun t len sym hp ht hc hd => ?_,
    fun t len sym hp hb ht hc hd => ?_, fun t len sym run hp hb ht hc hd => ?_,
    fun t len sym hp hb ht hc hd => ?_, fun t len sym run hp hb ht hc hd => ?_, fun t ht hnone => ?_⟩
  · exact step_of_fetch_instr ((fetch_of_fieldOfPhase hf).trans (fetchField_found (fieldOfPhase_width_le hf) hle hd))
  · exact step_of_fetch_fault ((fetch_of_fieldOfPhase hf).trans (fetchField_end f (fieldOfPhase_width_le hf) hlt))
  · exact step_of_fetch_instr (by rw [fetch, hp]; rfl)
  · exact step_of_fetch_instr ((fetch_codeLength hp ht).trans (fetchSymbol_found hc hd))
  · exact step_of_fetch_instr ((fetch_symbol_dynamic hp hb ht).trans (fetchSymbol_found hc hd))
  · exact step_of_fetch_instr ((fetch_distance_dynamic hp hb ht).trans (fetchSymbol_found hc hd))
  · exact step_of_fetch_instr ((fetch_symbol_fixed hp hb ht).trans (fetchKey_found hc hd))
  · exact step_of_fetch_instr ((fetch_distance_fixed hp hb ht).trans (fetchKey_found hc hd))
  · exact step_of_fetch_fault (fetch_of_decodesWith_error ht (State.decodeSymbol_of_none hnone))

end

section
/-! PROOFS. A BD.RUN ends (spec/45_top_level.md R210, R213): every element consumes bits or is padding (R161), so the fuel
of the run suffices; the run stops only at the end of the stream or by fault entry. -/

namespace Sys2Proof.Machine

/-! ### What an element leads to -/

/-- `t` is still inside the run, or it is the end of the stream after the last block of a run that led onward from `s`. -/
def RunsOn (s t : State) : Prop := t.phase ≠ .idle ∨ ∃ u, Onward s u ∧ u.final = true ∧ t = u.endRun

theorem RunsOn.endBlock {s u : State} (h : Onward s u) : RunsOn s u.endBlock := by
  unfold State.endBlock
  split
  · next hf => exact .inr ⟨u, h, hf, rfl⟩
  · exact .inl Phase.noConfusion

theorem RunsOn.of_onward {s t u : State} (h : Onward s t) (hu : RunsOn t u) : RunsOn s u :=
  hu.imp_right fun ⟨v, hv, hf, e⟩ => ⟨v, h.trans hv, hf, e⟩

theorem State.blockHeader_phase {s t : State} {f : Bool} {ty : Nat} (h : s.blockHeader f ty = .ok t) :
    t.phase ≠ .idle := by
  unfold State.blockHeader at h
  split at h <;> cases h <;> exact Phase.noConfusion

theorem State.setGroup_phase {s t : State} {g v : Nat} (h : s.setGroup g v = .ok t) : t.phase ≠ .idle := by
  unfold State.setGroup State.buildCodeLengthCode at h
  dsimp only at h
  split at h
  · cases h; exact Phase.noConfusion
  · split at h <;> cases h
    exact Phase.noConfusion

theorem State.buildDistanceTable_phase {s t : State} (h : s.buildDistanceTable = .ok t) : t.phase ≠ .idle := by
  unfold State.buildDistanceTable at h
  dsimp only at h
  split at h
  · cases h; exact Phase.noConfusion
  · split at h <;> cases h
    exact Phase.noConfusion

theorem State.afterLengths_phase {s t : State} (h : s.afterLengths = .ok t) : t.phase ≠ .idle := by
  unfold State.afterLengths State.buildBlockTables at h
  dsimp only at h
  split at h
  · cases h; exact Phase.noConfusion
  split at h
  · cases h
  split at h
  · exact State.buildDistanceTable_phase h
  · cases h

theorem State.codeLengthSymbol_phase {s t : State} {sym : Nat} (h : s.codeLengthSymbol sym = .ok t) :
    t.phase ≠ .idle := by
  unfold State.codeLengthSymbol at h
  split at h
  · exact State.afterLengths_phase h
  split at h
  · split at h
    · cases h
    · exact State.afterLengths_phase h
  · cases h

theorem State.distanceSymbol_phase {s t : State} {run sym : Nat} (h : s.distanceSymbol run sym = .ok t) :
    t.phase ≠ .idle := by
  unfold State.distanceSymbol at h
  split at h
  · cases h
  split at h
  · cases h
  split at h <;> cases h
  exact Phase.noConfusion

theorem State.lengthSymbol_phase {s t : State} {sym : Nat} (h : s.lengthSymbol sym = .ok t) : t.phase ≠ .idle := by
  unfold State.lengthSymbol at h
  split at h
  · cases h
  split at h
  · cases h
  split at h <;> cases h
  exact Phase.noConfusion

theorem RunsOn.storedComplement {s t : State} {len w : Nat} (h : s.storedComplement len w = .ok t) : RunsOn s t := by
  unfold State.storedComplement at h
  split at h <;> cases h
  split
  · exact .endBlock (.refl s)
  · exact .inl Phase.noConfusion

theorem RunsOn.storedByte (s : State) (left b : Nat) : RunsOn s (s.storedByte left b) := by
  unfold State.storedByte
  dsimp only
  split
  · exact .endBlock (.emit s _)
  · exact .inl Phase.noConfusion

theorem RunsOn.literalLengthSymbol {s t : State} {sym : Nat} (h : s.literalLengthSymbol sym = .ok t) : RunsOn s t := by
  unfold State.literalLengthSymbol at h
  split at h
  · cases h; exact .endBlock (.refl s)
  split at h
  · cases h; exact .inl Phase.noConfusion
  split at h
  · exact .inl (State.lengthSymbol_phase h)
  · cases h

/-- An element of a run that does not fault stays inside the run or ends the stream. -/
theorem State.nextElement_runsOn {s t : State} (hp : s.phase ≠ .idle) (h : s.nextElement = .ok t) : RunsOn s t := by
  unfold State.nextElement at h
  split at h
  · next hi => exact absurd hi hp
  · split at h
    · exact .inl (State.blockHeader_phase h)
    · cases h
  · cases h; exact .inl Phase.noConfusion
  · split at h <;> cases h
    exact .inl Phase.noConfusion
  · split at h
    · next hr => exact .of_onward (Onward.readUint hr).1 (.storedComplement h)
    · cases h
  · split at h
    · next hr => cases h; exact .of_onward (Onward.readUint hr).1 (.storedByte _ _ _)
    · cases h
  · split at h <;> cases h
    exact .inl Phase.noConfusion
  · split at h <;> cases h
    exact .inl Phase.noConfusion
  · split at h <;> cases h
    exact .inl Phase.noConfusion
  · split at h
    · exact .inl (State.setGroup_phase h)
    · cases h
  · split at h
    · exact .inl (State.codeLengthSymbol_phase h)
    · cases h
  · split at h
    · next hr => exact .of_onward (Onward.decodeSymbol hr).1 (.literalLengthSymbol h)
    · cases h
  · split at h
    · exact .inl (State.distanceSymbol_phase h)
    · cases h

/-! ### The measure of a run -/

/-- What an element of a run uses up: the bits left, twice, and one for padding, which may consume none. -/
def State.runMeasure (s : State) : Nat := 2 * (8 * s.inp.length - s.pos) + if s.phase = .storedPad then 1 else 0

theorem State.nextElement_measure {s t : State} (hp : s.phase ≠ .idle) (hb : s.pos ≤ 8 * s.inp.length)
    (h : s.nextElement = .ok t) : t.runMeasure < s.runMeasure := by
  obtain ⟨ho, hpos⟩ := State.nextElement_onward h
  have hmono := ho.pos
  have hle := ho.bound hb
  unfold State.runMeasure
  rw [ho.inp]
  by_cases hpad : s.phase = .storedPad
  · have ht : t.phase = .storedLen := by
      simp only [State.nextElement, hpad] at h
      cases h
      rfl
    rw [if_pos hpad, if_neg (by rw [ht]; decide)]
    omega
  · have hlt := hpos hp hpad
    rw [if_neg hpad]
    split <;> omega

theorem State.runElements_of_idle {s : State} (h : s.phase = .idle) (n : Nat) : s.runElements n = s := by
  cases n with
  | zero => rfl
  | succ n => exact if_pos h

/-- With fuel for every element the run ends: with the stream, after its last block, or by fault entry. -/
theorem State.runElements_ends {n : Nat} {s : State} (hp : s.phase ≠ .idle) (hb : s.pos ≤ 8 * s.inp.length)
    (hm : s.runMeasure < n) :
    ∃ u, Onward s u ∧ ((u.final = true ∧ s.runElements n = u.endRun) ∨ ∃ k, s.runElements n = u.takeFault k) := by
  induction n generalizing s with
  | zero => omega
  | succ n ih =>
    rw [State.runElements, if_neg hp, State.elementStep]
    cases he : s.nextElement with
    | error k => exact ⟨s, .refl s, .inr ⟨k, State.runElements_of_idle rfl n⟩⟩
    | ok t =>
      obtain ⟨ho, -⟩ := State.nextElement_onward he
      obtain ht | ⟨u, hu, hf, rfl⟩ := State.nextElement_runsOn hp he
      · have hlt := State.nextElement_measure hp hb he
        have hbt : t.pos ≤ 8 * t.inp.length := by rw [ho.inp]; exact ho.bound hb
        obtain ⟨u, hu, hend⟩ := ih ht hbt (by omega)
        exact ⟨u, ho.trans hu, hend⟩
      · exact ⟨u, hu, .inl ⟨hf, State.runElements_of_idle rfl n⟩⟩

/-- BD.RUN outside FAILED always ends: with the stream, or by fault entry (R210, R213). -/
theorem exec_bdRun_ends {s : State} (hf : s.bdState ≠ .failed) :
    ∃ u t, exec .bdRun s = .next t ∧ Onward s.perCallInit u ∧
      ((u.final = true ∧ t = u.endRun) ∨ ∃ k, t = u.takeFault k) := by
  have hm : s.perCallInit.runMeasure < s.runFuel := by
    show 2 * (8 * s.inp.length - 0) + 0 < 16 * s.inp.length + 1
    omega
  obtain ⟨u, hu, hend⟩ := State.runElements_ends (s := s.perCallInit) Phase.noConfusion (Nat.zero_le _) hm
  exact ⟨u, _, unlessFailed_of_not_failed hf _, hu, hend⟩

end Sys2Proof.Machine
end

section
/-! PROOFS. Every command gets a response (spec/30_encoding.md R63, spec/60_exceptions.md R221, R244): the four kinds of
answer, and which of them each command gives. -/

namespace Sys2Proof.Machine

/-- The four kinds of answer to a command `i` that took `s` to `t` (R63). -/
inductive CommandAnswer (i : Instr) (s t : State) : Prop
  | ok (value : Word) (hr : t.resp = some ⟨.ok, value⟩) (hf : t.bdState = .failed → ∃ n, i = .csrRd n)
  | none (hi : i = .brTry) (hp : s.pos = 8 * s.inLen) (ht : t = s.respondNone)
  | fault (k : FaultKind) (hb : t.bdState = .failed) (he : t.err = some k)
      (hr : t.resp = some ⟨.fault, BitVec.ofNat 32 k.code⟩)
  | refused (ht : t = s.refuse)

theorem FaultKind.one_le_code (k : FaultKind) : 1 ≤ k.code := by cases k <;> decide

theorem State.errCode_of_err {s : State} {k : FaultKind} (h : s.err = some k) : s.errCode = k.code := by
  rw [State.errCode, h]

/-- A fault code is read back from the 32 bits of the response. -/
theorem FaultKind.toNat_code (k : FaultKind) : (BitVec.ofNat 32 k.code).toNat = k.code := by
  have := k.code_le
  rw [BitVec.toNat_ofNat, Nat.mod_eq_of_lt (by omega)]

/-- What the status number of an answer says. -/
theorem CommandAnswer.numbered {i : Instr} {s t : State} (h : CommandAnswer i s t) :
    ∃ r, t.resp = some r ∧
      (r.status.code = 0 → t.bdState = .failed → ∃ n, i = .csrRd n) ∧
      (r.status.code = 1 → i = .brTry ∧ s.pos = 8 * s.inLen ∧ r.value = 0) ∧
      (r.status.code = 2 → t.bdState = .failed ∧ r.value.toNat = t.errCode ∧ 1 ≤ t.errCode ∧ t.errCode ≤ 16) ∧
      (r.status.code = 3 → r.value = 0 ∧ t = { s with resp := some r }) := by
  cases h with
  | ok value hr hf => exact ⟨_, hr, fun _ => hf, nofun, nofun, nofun⟩
  | none hi hp ht => subst ht; exact ⟨_, rfl, nofun, fun _ => ⟨hi, hp, rfl⟩, nofun, nofun⟩
  | fault k hb he hr =>
    refine ⟨_, hr, nofun, nofun, fun _ => ⟨hb, ?_⟩, nofun⟩
    rw [State.errCode_of_err he]
    exact ⟨k.toNat_code, k.one_le_code, k.code_le⟩
  | refused ht => subst ht; exact ⟨_, rfl, nofun, nofun, nofun, fun _ => ⟨rfl, rfl⟩⟩

/-- A fault taken where ERR was 0 (R239). -/
theorem CommandAnswer.of_takeFault {i : Instr} {s u : State} (he : u.err = .none) (k : FaultKind) :
    CommandAnswer i s (u.takeFault k) :=
  .fault k rfl (by rw [State.takeFault_err, he]; rfl) rfl

/-- The command answers: with a next state, in one of the four ways. -/
def Answers (i : Instr) (s : State) (r : Result) : Prop := ∃ t, r = .next t ∧ CommandAnswer i s t

namespace Answers

variable {i : Instr} {s : State}

theorem refuse : Answers i s (.next s.refuse) := ⟨_, rfl, .refused rfl⟩

/-- A command that succeeds and leaves STATE as it is, outside FAILED. -/
theorem ok (hf : s.bdState ≠ .failed) {t : State} (value : Nat) (ht : t.bdState = s.bdState) :
    Answers i s (.next (t.respondOk value)) :=
  ⟨_, rfl, .ok _ rfl fun hb => absurd (ht.symm.trans hb) hf⟩

theorem of_unlessFailed (h : s.Inv) {r : Result} (hr : s.bdState ≠ .failed → s.err = .none → Answers i s r) :
    Answers i s (unlessFailed s r) := by
  by_cases hf : s.bdState = .failed
  · rw [unlessFailed_of_failed hf]; exact refuse
  · rw [unlessFailed_of_not_failed hf]; exact hr hf (h.err_none hf)

theorem of_finish (he : s.err = .none) {r : Except FaultKind State} (hr : ∀ t, r = .ok t → CommandAnswer i s t) :
    Answers i s (finish s r) := by
  cases r with
  | ok t => exact ⟨t, rfl, hr t rfl⟩
  | error k => exact ⟨_, rfl, .of_takeFault he k⟩

/-! ### The commands -/

variable (h : s.Inv)
include h

theorem execBrPos : Answers i s (execBrPos s) := of_unlessFailed h fun hf _ => ok hf _ rfl

theorem execBrTry : Answers .brTry s (execBrTry s) := by
  refine of_unlessFailed h fun hf _ => ?_
  split
  · next hend => exact ⟨_, rfl, .none rfl (Nat.le_antisymm h.pos_le hend) rfl⟩
  · exact ok hf _ rfl

theorem execBrRdu (n : Int) : Answers i s (execBrRdu n s) := by
  refine of_unlessFailed h fun hf he => of_finish he fun t ht => ?_
  split at ht <;> cases ht
  next hr =>
  obtain ⟨ho, -⟩ := Onward.readUint hr
  exact .ok _ rfl fun hb => absurd hb (ho.failed hf)

theorem execHcBld (slot base count : Int) : Answers i s (execHcBld slot base count s) := by
  refine of_unlessFailed h fun hf he => ?_
  split
  · refine of_finish he fun t ht => ?_
    split at ht <;> cases ht
    exact .ok _ rfl fun hb => absurd hb ((Onward.setTable s _ _).failed hf)
  · exact refuse

theorem execHcDec (slot : Int) : Answers i s (execHcDec slot s) := by
  refine of_unlessFailed h fun hf he => ?_
  split
  · split
    · exact refuse
    · refine of_finish he fun t ht => ?_
      split at ht <;> cases ht
      next hd =>
      obtain ⟨ho, -⟩ := Onward.decodeSymbol hd
      exact .ok _ rfl fun hb => absurd hb (ho.failed hf)
  · exact refuse

theorem execSwApp (byte : Int) : Answers i s (execSwApp byte s) := by
  refine of_unlessFailed h fun hf _ => ?_
  split
  · exact ok hf _ rfl
  · exact refuse

theorem execSwCpy (distance length : Int) : Answers i s (execSwCpy distance length s) := by
  refine of_unlessFailed h fun hf he => of_finish he fun t ht => ?_
  split at ht <;> cases ht
  next hc =>
  obtain ⟨_, hx⟩ | ⟨_, _, _, hx⟩ | ⟨_, _, _, hx⟩ := State.copyBack_cases hc <;> cases hx
  exact .ok _ rfl fun hb => absurd hb ((Onward.copyLoop s _ _).failed hf)

theorem execLbSet (index value : Int) : Answers i s (execLbSet index value s) := by
  refine of_unlessFailed h fun hf _ => ?_
  split
  · exact ok hf _ rfl
  · exact refuse

/-- The run has ended, so its response is there: OUT_LEN in Done, or the kind of the fault (R210). -/
theorem execBdRun : Answers i s (execBdRun s) := by
  refine of_unlessFailed h fun hf he => ?_
  obtain ⟨u, t, hx, ho, hend⟩ := exec_bdRun_ends hf
  have ht : s.perCallInit.runElements s.runFuel = t :=
    Host.Outcome.next.inj ((unlessFailed_of_not_failed hf _).symm.trans hx)
  refine ⟨t, congrArg _ ht, ?_⟩
  obtain ⟨-, rfl⟩ | ⟨k, rfl⟩ := hend
  · exact .ok _ rfl BdState.noConfusion
  · exact .of_takeFault (ho.err.trans he) k

omit h in
theorem execCsrRd (number : Int) : Answers (.csrRd number) s (execCsrRd number s) := by
  unfold Machine.execCsrRd
  split
  · split <;> exact ⟨_, rfl, .ok _ rfl fun _ => ⟨number, rfl⟩⟩
  · exact refuse

end Answers

/-- Every command is answered. -/
theorem exec_command_answers {i : Instr} (hi : isCommand i) {s : State} (h : s.Inv) : Answers i s (exec i s) := by
  obtain ⟨c, hc⟩ := hi
  cases i
  case reset => exact ⟨_, rfl, .ok _ rfl BdState.noConfusion⟩
  case brPos => exact .execBrPos h
  case brTry => exact .execBrTry h
  case brRdu n => exact .execBrRdu h n
  case hcBld slot base count => exact .execHcBld h slot base count
  case hcDec slot => exact .execHcDec h slot
  case swApp byte => exact .execSwApp h byte
  case swCpy distance length => exact .execSwCpy h distance length
  case bdRun => exact .execBdRun h
  case lbSet index value => exact .execLbSet h index value
  case csrRd number => exact .execCsrRd number
  case reserved11 | reserved12 | reserved13 | reserved14 | reserved15 => exact .refuse
  all_goals cases hc

end Sys2Proof.Machine

open Sys2Proof Sys2Proof.Machine

/-- Settles O59: every command is answered in one of the four ways, and the numbers tell them apart. -/
theorem everyCommandGetsANumberedResponse : Obligations.EveryCommandGetsANumberedResponse := by
  refine ⟨⟨rfl, rfl, rfl, rfl⟩, fun i s hi h => ?_⟩
  obtain ⟨t, ht, ha⟩ := exec_command_answers hi h
  obtain ⟨r, hr, hsays⟩ := ha.numbered
  exact ⟨t, r, ht, hr, hsays⟩

end

section
/-! PROOFS. The statements about the bit reader (spec/40_bit_reader.md): O1, O2, O3. Outside FAILED each of its commands
is executed; BR.RDU hands on what ReadUint answers. -/

namespace Sys2Proof.Machine

variable {s : State} (hf : s.bdState ≠ .failed)
include hf

theorem exec_brPos_of_not_failed : exec .brPos s = .next (s.respondOk (s.pos % 8)) :=
  unlessFailed_of_not_failed hf _

/-- A bit is left, and is consumed (R91). -/
theorem exec_brTry_of_lt (h : s.pos < 8 * s.inLen) :
    exec .brTry s = .next ((s.withPos (s.pos + 1)).respondOk (bitAt s.inp s.pos)) :=
  (unlessFailed_of_not_failed hf _).trans (if_neg (Nat.not_le.mpr h))

/-- No bit is left (R91). -/
theorem exec_brTry_of_le (h : 8 * s.inLen ≤ s.pos) : exec .brTry s = .next s.respondNone :=
  (unlessFailed_of_not_failed hf _).trans (if_pos h)

theorem exec_brRdu_of_readUint_ok {n : Int} {v : Nat} {t : State} (h : s.readUint n = .ok (v, t)) :
    exec (.brRdu n) s = .next (t.respondOk v) := by
  refine (unlessFailed_of_not_failed hf _).trans ?_
  rw [h]
  rfl

theorem exec_brRdu_of_readUint_error {n : Int} {k : FaultKind} (h : s.readUint n = .error k) :
    exec (.brRdu n) s = .next (s.takeFault k) := by
  refine (unlessFailed_of_not_failed hf _).trans ?_
  rw [h]
  rfl

end Sys2Proof.Machine

open Sys2Proof Sys2Proof.Machine

/-- Settles O3: by what ReadUint answers in each of the three cases; its field is the sum of the weighted bits. -/
theorem brRduPacksBitsLittleEndian : Obligations.BrRduPacksBitsLittleEndian := by
  intro s hf
  refine ⟨fun n hn => ?badCount, fun n hn hend => ?endOfStream, fun n hn hle => ?packed⟩
  case badCount => exact exec_brRdu_of_readUint_error hf (State.readUint_badCount hn)
  case endOfStream => exact exec_brRdu_of_readUint_error hf (State.readUint_end hn hend)
  case packed =>
    rw [← bitsAt_eq_sum]
    exact ⟨bitsAt_lt s.inp s.pos n, exec_brRdu_of_readUint_ok hf (State.readUint_ok hn hle)⟩

/-- Settles O1: the command only answers. -/
theorem brPosAnswersTheBitOffset : Obligations.BrPosAnswersTheBitOffset := fun _ hf => exec_brPos_of_not_failed hf

/-- Settles O2: with a bit left, and at the end of input. -/
theorem brTryAnswersTheNextBitOrNone : Obligations.BrTryAnswersTheNextBitOrNone := fun _ hf =>
  ⟨exec_brTry_of_lt hf, fun hend => exec_brTry_of_le hf hend.ge⟩

end

section
/-! PROOFS. What Build answers (spec/41_huffman.md R110, R111): how many codes a length may still get decides whether it
faults, and the table it returns has exactly one key for each used symbol. -/

namespace Sys2Proof.Machine

/-! ### The code space -/

/-- The code space of a length and of the shorter ones is taken from every longer length (R111(b)). -/
theorem firstCode_ge (lens : List Nat) {m len : Nat} (hm : 1 ≤ m) (hlt : m < len) :
    (firstCode lens m + lens.count m) * 2 ^ (len - m) ≤ firstCode lens len := by
  induction len, hlt using Nat.le_induction with
  | base => rw [firstCode_succ lens hm, Nat.succ_sub (Nat.le_refl m), Nat.sub_self]; omega
  | succ len hlt ih =>
    rw [firstCode_succ lens (by omega), Nat.succ_sub (by omega), Nat.pow_succ, ← Nat.mul_assoc]
    omega

/-- Behind the last length stands the whole code space used, on a scale of 16 bits. -/
theorem firstCode_sixteen (lens : List Nat) : firstCode lens 16 = 2 * codeSpace lens := by
  unfold firstCode codeSpace
  rw [← List.sum_map_mul_left]
  congr 1
  refine List.map_congr_left fun l _ => ?_
  by_cases h : 1 ≤ l ∧ l ≤ 15
  · rw [if_pos h, if_pos (by omega), ← Nat.pow_succ', ← Nat.succ_sub h.2]
  · rw [if_neg h, if_neg (by omega), Nat.mul_zero]

/-- A length that asks for more codes than it has leaves every longer length, and so the whole code, overfull. -/
theorem firstCode_overfull {lens : List Nat} {m len : Nat} (hm : 1 ≤ m) (hlt : m < len)
    (h : 2 ^ m < firstCode lens m + lens.count m) : 2 ^ len < firstCode lens len := by
  calc 2 ^ len = 2 ^ m * 2 ^ (len - m) := by rw [← Nat.pow_add]; congr 1; omega
    _ < (firstCode lens m + lens.count m) * 2 ^ (len - m) := Nat.mul_lt_mul_of_pos_right h (Nat.two_pow_pos _)
    _ ≤ firstCode lens len := firstCode_ge lens hm hlt

/-! ### When Build faults -/

/-- One length of Build, entered within its range: it ends within its range, or faults because it asks for more. -/
theorem assignLength_cases {len : Nat} {lens : List Nat} {s next : Nat} (hle : next ≤ 2 ^ len) :
    (∃ n t, assignLength len lens s next = .ok (n, t) ∧ n ≤ 2 ^ len) ∨
      (assignLength len lens s next = .error .overfullCode ∧ 2 ^ len < next + lens.count len) := by
  induction lens generalizing s next with
  | nil => exact .inl ⟨next, [], rfl, hle⟩
  | cons l rest ih =>
    unfold assignLength
    by_cases hl : l = len
    · subst hl
      rw [if_pos rfl, List.count_cons_self]
      by_cases hfull : 2 ^ l ≤ next
      · exact .inr ⟨if_pos hfull, by omega⟩
      rw [if_neg hfull]
      obtain ⟨n, t, ht, hn⟩ | ⟨ht, hn⟩ := ih (s := s + 1) (next := next + 1) (by omega)
      · exact .inl ⟨n, _, by rw [ht], hn⟩
      · exact .inr ⟨by rw [ht], by omega⟩
    · rw [if_neg hl, List.count_cons_of_ne hl]
      exact ih hle

/-- The lengths from `len` on, entered within range: Build gets behind the last of them within range, or it faults and
the code space is exceeded there. -/
theorem assignLengths_cases {lens : List Nat} {k len next : Nat} (hlen : 1 ≤ len)
    (hn : 2 * next = firstCode lens len) (hle : 2 * next ≤ 2 ^ len) :
    (∃ n t, assignLengths lens (List.range' len k) next = .ok (n, t) ∧ 2 * n ≤ 2 ^ (len + k)) ∨
      (assignLengths lens (List.range' len k) next = .error .overfullCode ∧
        2 ^ (len + k) < firstCode lens (len + k)) := by
  induction k generalizing len next with
  | zero => exact .inl ⟨next, [], rfl, hle⟩
  | succ k ih =>
    rw [List.range'_succ, assignLengths]
    obtain ⟨n, t, ht, hnle⟩ | ⟨ht, hover⟩ := assignLength_cases (lens := lens) (s := 0) hle
    · obtain ⟨hcount, -⟩ := assignLength_ok ht
      rw [ht, show len + (k + 1) = len + 1 + k by omega]
      obtain ⟨m, u, hu, hm⟩ | ⟨hu, hm⟩ := ih (len := len + 1) (next := n) (by omega)
        (by rw [hcount, hn, firstCode_succ lens hlen]) (by rw [Nat.pow_succ]; omega)
      · exact .inl ⟨m, t ++ u, by simp only [hu], hm⟩
      · exact .inr ⟨by simp only [hu], hm⟩
    · exact .inr ⟨by rw [ht], firstCode_overfull hlen (by omega) (hn ▸ hover)⟩

/-- The three ways Build ends: the lengths fill the code space, ask for more, or leave a part unused (R111). -/
theorem build_cases (lens : List Nat) :
    ((∃ t, build lens = .ok t) ∧ codeSpace lens = 32768) ∨
      (build lens = .error .overfullCode ∧ 32768 < codeSpace lens) ∨
      (build lens = .error .underfullCode ∧ codeSpace lens < 32768) := by
  have h16 := firstCode_sixteen lens
  have hfirst : 2 * 0 = firstCode lens 1 := (firstCode_one lens).symm
  unfold build
  rw [show candidateLengths = List.range' 1 15 from rfl]
  obtain ⟨n, t, ht, hn⟩ | ⟨ht, hover⟩ := assignLengths_cases (k := 15) (Nat.le_refl 1) hfirst (by decide)
  · have hend : 2 * n = firstCode lens 16 := (assignLengths_ok (Nat.le_refl 1) hfirst ht).1
    have hspace : n = codeSpace lens := by omega
    rw [ht]
    by_cases hfull : n = Config.fullCode
    · exact .inl ⟨⟨t, if_pos hfull⟩, hspace ▸ hfull⟩
    · have hne : n ≠ 32768 := hfull
      exact .inr (.inr ⟨if_neg hfull, by omega⟩)
  · have hend : 2 ^ 16 < firstCode lens 16 := hover
    exact .inr (.inl ⟨by rw [ht], by omega⟩)

theorem codeSpace_of_build {lens : List Nat} {t : Table} (hb : build lens = .ok t) : codeSpace lens = 32768 := by
  obtain ⟨-, hspace⟩ | ⟨herr, -⟩ | ⟨herr, -⟩ := build_cases lens
  · exact hspace
  · cases hb.symm.trans herr
  · cases hb.symm.trans herr

end Sys2Proof.Machine

open Sys2Proof Sys2Proof.Machine

/-- Settles O6: the three ways Build ends exclude each other, and so do the three sizes of the code space. -/
theorem buildSucceedsExactlyOnFullCodes : Obligations.BuildSucceedsExactlyOnFullCodes := by
  intro lens _
  obtain ⟨⟨t, ht⟩, hspace⟩ | ⟨ht, hspace⟩ | ⟨ht, hspace⟩ := build_cases lens
  · simp [ht, hspace]
  · simp [ht]; omega
  · simp [ht]; omega

end

section
/-! PROOFS. The tables Build returns (spec/41_huffman.md R111): which pairs they hold, that no codeword begins
another, and the order of the codewords. -/

namespace Sys2Proof.Machine

/-! ### How often a length stands before a place -/

theorem count_take_succ {l : List Nat} {a k : Nat} (h : l[k]? = some a) :
    (l.take (k + 1)).count a = (l.take k).count a + 1 := by
  rw [List.take_add_one, h, List.count_append]
  simp

/-- Each place of a length counts before all later places. -/
theorem count_take_lt {l : List Nat} {a i j : Nat} (hi : l[i]? = some a) (h : i < j) :
    (l.take i).count a < (l.take j).count a := by
  have hsucc := count_take_succ hi
  have hmono := (List.take_sublist_take_left (l := l) (i := i + 1) h).count_le a
  omega

theorem count_take_lt_count {l : List Nat} {a i : Nat} (hi : l[i]? = some a) : (l.take i).count a < l.count a := by
  have hlt := count_take_lt hi (List.getElem?_eq_some_iff.mp hi).1
  rwa [List.take_length] at hlt

/-- Two places of a length with equally many places of it before them are one. -/
theorem eq_of_count_take_eq {l : List Nat} {a i j : Nat} (hi : l[i]? = some a) (hj : l[j]? = some a)
    (h : (l.take i).count a = (l.take j).count a) : i = j := by
  rcases Nat.lt_trichotomy i j with hlt | heq | hlt
  · exact absurd h (count_take_lt hi hlt).ne
  · exact heq
  · exact absurd h (count_take_lt hj hlt).ne'

theorem count_take_of_gap {l : List Nat} {a i j : Nat} (hij : i ≤ j) (gap : ∀ k, i ≤ k → k < j → l[k]? ≠ some a) :
    (l.take j).count a = (l.take i).count a := by
  induction j, hij using Nat.le_induction with
  | base => rfl
  | succ j hij ih =>
    have hj : (l[j]?.toList).count a = 0 := List.count_eq_zero.mpr fun hmem =>
      gap j hij (Nat.lt_succ_self j) (Option.mem_toList.mp hmem)
    rw [List.take_add_one, List.count_append, hj, Nat.add_zero, ih fun k h1 h2 => gap k h1 (by omega)]

/-- A length that occurs more than `n` times has a place with `n` places of it before. -/
theorem exists_count_take_eq {l : List Nat} {a n : Nat} (h : n < l.count a) :
    ∃ k, l[k]? = some a ∧ (l.take k).count a = n := by
  induction l generalizing n with
  | nil => simp at h
  | cons b rest ih =>
    by_cases hb : b = a
    · subst hb
      rw [List.count_cons_self] at h
      rcases n with _ | n
      · exact ⟨0, rfl, rfl⟩
      · obtain ⟨k, hk, hc⟩ := ih (n := n) (by omega)
        exact ⟨k + 1, hk, by rw [List.take_succ_cons, List.count_cons_self, hc]⟩
    · rw [List.count_cons_of_ne hb] at h
      obtain ⟨k, hk, hc⟩ := ih h
      exact ⟨k + 1, hk, by rw [List.take_succ_cons, List.count_cons_of_ne hb, hc]⟩

/-! ### The pairs of a built table -/

/-- The codeword of a symbol of length `len`: as far behind the first one of its length as there are symbols of that
length before it (R110, R111(d)). -/
def symbolCode (lens : List Nat) (len sym : Nat) : Nat := firstCode lens len + (lens.take sym).count len

/-- Every symbol of the length gets a pair. -/
theorem assignLength_mem {len : Nat} {lens : List Nat} {s next n k : Nat} {t : Table}
    (h : assignLength len lens s next = .ok (n, t)) (hk : lens[k]? = some len) : ∃ key, (key, s + k) ∈ t := by
  induction lens generalizing s next n t k with
  | nil => cases hk
  | cons l rest ih =>
    unfold assignLength at h
    have later : ∀ {nx n' k' : Nat} {u : Table}, assignLength len rest (s + 1) nx = .ok (n', u) →
        rest[k']? = some len → ∃ key, (key, s + (k' + 1)) ∈ u := by
      intro nx n' k' u hu hk'
      obtain ⟨key, hmem⟩ := ih hu hk'
      exact ⟨key, by rwa [show s + (k' + 1) = s + 1 + k' by omega]⟩
    split at h
    · next hl =>
      split at h
      · cases h
      split at h
      · next hu =>
        cases h
        rcases k with _ | k
        · exact ⟨_, List.mem_cons_self⟩
        · obtain ⟨key, hmem⟩ := later hu hk
          exact ⟨key, List.mem_cons_of_mem _ hmem⟩
      · cases h
    · next hl =>
      rcases k with _ | k
      · exact absurd (Option.some.inj hk) hl
      · exact later h hk

/-- Every symbol of one of the lengths gets a pair. -/
theorem assignLengths_mem {lens todo : List Nat} {next n sym len : Nat} {t : Table}
    (h : assignLengths lens todo next = .ok (n, t)) (hlen : len ∈ todo) (hs : lens[sym]? = some len) :
    ∃ key, (key, sym) ∈ t := by
  induction todo generalizing next n t with
  | nil => cases hlen
  | cons l rest ih =>
    unfold assignLengths at h
    split at h
    · cases h
    next n1 t1 ha =>
    split at h
    · cases h
    next m u hb =>
    cases h
    rcases List.mem_cons.mp hlen with rfl | hrest
    · obtain ⟨key, hmem⟩ := assignLength_mem ha hs
      exact ⟨key, List.mem_append_left _ (by rwa [Nat.zero_add] at hmem)⟩
    · obtain ⟨key, hmem⟩ := ih hb hrest
      exact ⟨key, List.mem_append_right _ hmem⟩

theorem mem_candidateLengths {len : Nat} : len ∈ candidateLengths ↔ 1 ≤ len ∧ len ≤ 15 := by
  rw [show candidateLengths = List.range' 1 15 from rfl, List.mem_range'_1]
  omega

section Built

variable {lens : List Nat} {t : Table} (hb : build lens = .ok t)
include hb

theorem build_assignLengths : assignLengths lens candidateLengths 0 = .ok (Config.fullCode, t) := by
  unfold build at hb
  split at hb
  · cases hb
  · split at hb
    · next ha hn => cases hb; rw [ha, hn]
    · cases hb

/-- The pairs of a table that Build returned: each used symbol with the key of its codeword, and no others. -/
theorem mem_build {key sym : Nat} :
    (key, sym) ∈ t ↔
      ∃ len, 1 ≤ len ∧ len ≤ 15 ∧ lens[sym]? = some len ∧ key = codeKey len (symbolCode lens len sym) := by
  constructor
  · exact fun he => build_key hb he
  · rintro ⟨len, h1, h15, hs, rfl⟩
    obtain ⟨key, hmem⟩ := assignLengths_mem (build_assignLengths hb) (mem_candidateLengths.mpr ⟨h1, h15⟩) hs
    obtain ⟨len', -, -, hs', hkey⟩ := build_key hb hmem
    obtain rfl : len = len' := Option.some.inj (hs.symm.trans hs')
    exact hkey ▸ hmem

/-- In a built table every length has room for its codes. -/
theorem build_codes_fit {len : Nat} (h1 : 1 ≤ len) (h15 : len ≤ 15) :
    firstCode lens len + lens.count len ≤ 2 ^ len := by
  by_contra hover
  have hspace := firstCode_overfull h1 (Nat.lt_succ_of_le h15) (Nat.lt_of_not_le hover)
  rw [firstCode_sixteen, codeSpace_of_build hb] at hspace
  exact absurd hspace (by decide)

theorem symbolCode_lt {len sym : Nat} (h1 : 1 ≤ len) (h15 : len ≤ 15) (hs : lens[sym]? = some len) :
    symbolCode lens len sym < 2 ^ len := by
  have := build_codes_fit hb h1 h15
  have := count_take_lt_count hs
  unfold symbolCode
  omega

end Built

/-! ### Keys, their codewords and the beginnings of codewords -/

theorem codeKey_lt {len code : Nat} (h : code < 2 ^ len) : codeKey len code < 2 ^ (len + 1) := by
  unfold codeKey
  rw [Nat.pow_succ]
  omega

/-- Dropping the last `n` bits of a codeword drops them from its key. -/
theorem codeKey_div {len n : Nat} (code : Nat) (h : n ≤ len) :
    codeKey len code / 2 ^ n = codeKey (len - n) (code / 2 ^ n) := by
  have hpow : 2 ^ len = 2 ^ n * 2 ^ (len - n) := by rw [← Nat.pow_add]; congr 1; omega
  rw [codeKey, hpow, Nat.mul_add_div (Nat.two_pow_pos n), codeKey]

/-- The sentinel of a key tells the length of its codeword. -/
theorem log_codeKey {len code : Nat} (h : code < 2 ^ len) : Nat.log 2 (codeKey len code) = len :=
  Nat.log_eq_of_pow_le_of_lt_pow (Nat.le_add_right _ _) (codeKey_lt h)

theorem codeKey_inj {len code len' code' : Nat} (h : code < 2 ^ len) (h' : code' < 2 ^ len')
    (heq : codeKey len code = codeKey len' code') : len = len' ∧ code = code' := by
  obtain rfl : len = len' := by rw [← log_codeKey h, heq, log_codeKey h']
  exact ⟨rfl, Nat.add_left_cancel heq⟩

/-- The codewords of a longer length, cut to a shorter one, lie behind all codewords of that length. -/
theorem symbolCode_div_ge {lens : List Nat} {m len : Nat} (sym : Nat) (hm : 1 ≤ m) (hlt : m < len) :
    firstCode lens m + lens.count m ≤ symbolCode lens len sym / 2 ^ (len - m) :=
  (Nat.le_div_iff_mul_le (Nat.two_pow_pos _)).mpr ((firstCode_ge lens hm hlt).trans (Nat.le_add_right _ _))

section Built

variable {lens : List Nat} {t : Table} (hb : build lens = .ok t)
include hb

theorem build_key_of_length {key sym len : Nat} (he : (key, sym) ∈ t) (hs : lens[sym]? = some len) :
    1 ≤ len ∧ len ≤ 15 ∧ key = codeKey len (symbolCode lens len sym) := by
  obtain ⟨len', h1, h15, hs', hkey⟩ := (mem_build hb).mp he
  obtain rfl : len = len' := Option.some.inj (hs.symm.trans hs')
  exact ⟨h1, h15, hkey⟩

/-- A key is the codeword of its symbol behind the sentinel (R14). -/
theorem build_key_form {key sym : Nat} (he : (key, sym) ∈ t) :
    ∃ len, 1 ≤ len ∧ len ≤ 15 ∧ lens[sym]? = some len ∧ 2 ^ len ≤ key ∧ key < 2 ^ (len + 1) := by
  obtain ⟨len, h1, h15, hs, rfl⟩ := (mem_build hb).mp he
  exact ⟨len, h1, h15, hs, Nat.le_add_right _ _, codeKey_lt (symbolCode_lt hb h1 h15 hs)⟩

theorem build_existsUnique_key {sym len : Nat} (hlens : ∀ l ∈ lens, l ≤ 15) (hs : lens[sym]? = some len)
    (h1 : 1 ≤ len) : ∃! key, (key, sym) ∈ t := by
  have h15 := hlens len (List.mem_of_getElem? hs)
  exact ⟨_, (mem_build hb).mpr ⟨len, h1, h15, hs, rfl⟩, fun key he => (build_key_of_length hb he hs).2.2⟩

/-- No codeword begins another (R111(c)): a shorter one would lie behind the last codeword of its length. -/
theorem build_prefix_free {key sym key' sym' n : Nat} (he : (key, sym) ∈ t) (he' : (key', sym') ∈ t)
    (hpre : key / 2 ^ n = key') : (key, sym) = (key', sym') := by
  obtain ⟨len, h1, h15, hs, hkey⟩ := (mem_build hb).mp he
  obtain ⟨len', h1', h15', hs', hkey'⟩ := (mem_build hb).mp he'
  have hc := symbolCode_lt hb h1 h15 hs
  have hc' := symbolCode_lt hb h1' h15' hs'
  have hn : n ≤ len := by
    by_contra hn
    have hzero : key / 2 ^ n = 0 := Nat.div_eq_of_lt
      (hkey ▸ (codeKey_lt hc).trans_le (Nat.pow_le_pow_right (by decide) (by omega)))
    have hpos : 0 < codeKey len' (symbolCode lens len' sym') := Nat.add_pos_left (Nat.two_pow_pos len') _
    omega
  have hcut : symbolCode lens len sym / 2 ^ n < 2 ^ (len - n) := by
    rwa [Nat.div_lt_iff_lt_mul (Nat.two_pow_pos n), ← Nat.pow_add, Nat.sub_add_cancel hn]
  obtain ⟨hlen, hcode⟩ := codeKey_inj hcut hc' (by rw [← codeKey_div _ hn, ← hkey, hpre, hkey'])
  rcases Nat.eq_zero_or_pos n with rfl | hpos
  · obtain rfl : len = len' := hlen
    rw [Nat.pow_zero, Nat.div_one] at hpre hcode
    exact Prod.ext hpre (eq_of_count_take_eq hs hs' (Nat.add_left_cancel hcode))
  · have hge := symbolCode_div_ge (lens := lens) sym h1' (by omega : len' < len)
    have hlt := count_take_lt_count hs'
    rw [show len - len' = n by omega, hcode, symbolCode] at hge
    omega

/-- The codewords of one length are consecutive in symbol order (R111(d)). -/
theorem build_consecutive {key sym key' sym' len : Nat} (he : (key, sym) ∈ t) (he' : (key', sym') ∈ t)
    (hs : lens[sym]? = some len) (hs' : lens[sym']? = some len) (hlt : sym < sym')
    (gap : ∀ k, sym < k → k < sym' → lens[k]? ≠ some len) : key' = key + 1 := by
  obtain ⟨-, -, rfl⟩ := build_key_of_length hb he hs
  obtain ⟨-, -, rfl⟩ := build_key_of_length hb he' hs'
  have hcount := count_take_of_gap (i := sym + 1) hlt gap
  rw [codeKey, codeKey, symbolCode, symbolCode, hcount, count_take_succ hs]
  rfl

/-- The first symbol of a length has its first codeword. -/
theorem build_first_key {key sym len : Nat} (he : (key, sym) ∈ t) (hs : lens[sym]? = some len)
    (first : ∀ k, k < sym → lens[k]? ≠ some len) : key = 2 ^ len + firstCode lens len := by
  obtain ⟨-, -, rfl⟩ := build_key_of_length hb he hs
  rw [codeKey, symbolCode, count_take_of_gap (Nat.zero_le sym) fun k _ => first k]
  rfl

/-- Behind the codeword of the last symbol of a length all its codes are used. -/
theorem build_last_key {key sym len : Nat} (he : (key, sym) ∈ t) (hs : lens[sym]? = some len)
    (last : ∀ k, sym < k → lens[k]? ≠ some len) : key - 2 ^ len + 1 = firstCode lens len + lens.count len := by
  obtain ⟨-, -, rfl⟩ := build_key_of_length hb he hs
  have hsym : sym + 1 ≤ lens.length := (List.getElem?_eq_some_iff.mp hs).1
  have hcount := count_take_of_gap hsym fun k hk _ => last k hk
  rw [List.take_length, count_take_succ hs] at hcount
  rw [codeKey, symbolCode, Nat.add_sub_cancel_left, hcount, Nat.add_assoc]

end Built

/-- The shortest length used starts at code 0 (R111(d)). -/
theorem firstCode_of_shortest {lens : List Nat} {len : Nat} (h : ∀ l ∈ lens, l = 0 ∨ len ≤ l) :
    firstCode lens len = 0 := by
  refine List.sum_eq_zero fun x hx => ?_
  obtain ⟨l, hl, rfl⟩ := List.mem_map.mp hx
  have := h l hl
  exact if_neg (by omega)

end Sys2Proof.Machine

open Sys2Proof Sys2Proof.Machine

/-- Settles O7: each clause read off from the codeword of a symbol in closed form. -/
theorem builtTablesArePrefixFree : Obligations.BuiltTablesArePrefixFree := by
  intro lens t hlens hb
  refine ⟨fun e he => build_key_form hb he, fun sym L hs h1 => build_existsUnique_key hb hlens hs h1,
    fun e he f hf n hpre => build_prefix_free hb he hf hpre,
    fun e he f hf L hs hs' hlt gap => build_consecutive hb he hf hs hs' hlt gap, fun e he L hs first => ?_⟩
  have hfirst := build_first_key hb he hs first
  refine ⟨fun shortest => ?_, fun f hf M hs' hlt gap last => ?_⟩
  · rw [hfirst, firstCode_of_shortest shortest, Nat.add_zero]
  · obtain ⟨hM, -, -⟩ := build_key_of_length hb hf hs'
    rw [hfirst, firstCode_of_gap lens hM hlt gap, build_last_key hb hf hs' last]

end

section
/-! PROOFS. Decode with a built table (spec/41_huffman.md R111(c), R113): every run of 15 bits begins with a codeword of
the table, so Decode ends within 15 bits or with the input. -/

namespace Sys2Proof.Machine

/-! ### A full code covers every bit sequence -/

/-- A value below the last code of a length begins with a codeword of that length or of a shorter one. -/
theorem exists_code_of_lt (lens : List Nat) {len x : Nat} (hlen : 1 ≤ len)
    (hx : x < firstCode lens len + lens.count len) :
    ∃ m, 1 ≤ m ∧ m ≤ len ∧ firstCode lens m ≤ x / 2 ^ (len - m) ∧
      x / 2 ^ (len - m) < firstCode lens m + lens.count m := by
  induction len, hlen using Nat.le_induction generalizing x with
  | base => exact ⟨1, Nat.le_refl 1, Nat.le_refl 1, by simp [firstCode_one], by simpa using hx⟩
  | succ len hlen ih =>
    by_cases hfirst : firstCode lens (len + 1) ≤ x
    · exact ⟨len + 1, by omega, Nat.le_refl _, by simpa using hfirst, by simpa using hx⟩
    · have hsucc := firstCode_succ lens hlen
      obtain ⟨m, h1, hm, hge, hlt⟩ := ih (x := x / 2) (by omega)
      rw [Nat.div_div_eq_div_mul, ← Nat.pow_succ', ← Nat.succ_sub hm] at hge hlt
      exact ⟨m, h1, Nat.le_succ_of_le hm, hge, hlt⟩

/-- With a full code every value of 15 bits begins with a codeword of the table (R111(c)). -/
theorem build_covers {lens : List Nat} {t : Table} (hb : build lens = .ok t) {x : Nat} (hx : x < 2 ^ 15) :
    ∃ m sym, 1 ≤ m ∧ m ≤ 15 ∧ (codeKey m (x / 2 ^ (15 - m)), sym) ∈ t := by
  have hfull : firstCode lens 15 + lens.count 15 = 2 ^ 15 := by
    have h15 : firstCode lens 16 = _ := firstCode_succ lens (len := 15) (by decide)
    have h16 := firstCode_sixteen lens
    have hspace := codeSpace_of_build hb
    omega
  obtain ⟨m, h1, hm, hge, hlt⟩ := exists_code_of_lt lens (by decide) (hfull ▸ hx)
  obtain ⟨sym, hs, hc⟩ := exists_count_take_eq (l := lens) (Nat.sub_lt_left_of_lt_add hge hlt)
  refine ⟨m, sym, h1, hm, (mem_build hb).mpr ⟨m, h1, hm, hs, ?_⟩⟩
  rw [symbolCode, hc, Nat.add_sub_cancel' hge]

/-! ### The codeword at POS -/

theorem codewordAt_lt (inp : List Byte) (p n : Nat) : codewordAt inp p n < 2 ^ n := by
  induction n with
  | zero => exact Nat.one_pos
  | succ n ih =>
    have := bitAt_lt_two inp (p + n)
    rw [codewordAt, Nat.pow_succ]
    omega

/-- The first bits of a codeword are its high bits (R44). -/
theorem codewordAt_div (inp : List Byte) (p m k : Nat) : codewordAt inp p (m + k) / 2 ^ k = codewordAt inp p m := by
  induction k with
  | zero => exact Nat.div_one _
  | succ k ih =>
    have hbit := bitAt_lt_two inp (p + (m + k))
    rw [Nat.pow_succ', ← Nat.div_div_eq_div_mul, ← Nat.add_assoc, codewordAt, ← ih]
    congr 1
    omega

theorem tableLookup_ne_none {t : Table} {key sym : Nat} (h : (key, sym) ∈ t) : tableLookup t key ≠ none := by
  induction t with
  | nil => cases h
  | cons e rest ih =>
    unfold tableLookup
    split
    · exact Option.some_ne_none _
    · next hne =>
      rcases List.mem_cons.mp h with rfl | hrest
      · exact absurd rfl hne
      · exact ih hrest

theorem mem_of_tableLookup {t : Table} {key sym : Nat} (h : tableLookup t key = some sym) : (key, sym) ∈ t := by
  induction t with
  | nil => cases h
  | cons e rest ih =>
    unfold tableLookup at h
    split at h
    · next heq => cases h; exact heq ▸ List.mem_cons_self
    · exact List.mem_cons_of_mem _ (ih h)

/-- A codeword of a built table begins the 15 bits from any place on, even beyond the end of IN. -/
theorem build_codeword_within_fifteen {lens : List Nat} {t : Table} (hb : build lens = .ok t) (inp : List Byte)
    (p : Nat) : ∃ m, 1 ≤ m ∧ m ≤ 15 ∧ tableLookup t (codeKey m (codewordAt inp p m)) ≠ none := by
  obtain ⟨m, sym, h1, h15, hmem⟩ := build_covers hb (codewordAt_lt inp p 15)
  have hcut := codewordAt_div inp p m (15 - m)
  rw [Nat.add_sub_cancel' h15] at hcut
  exact ⟨m, h1, h15, tableLookup_ne_none (hcut ▸ hmem)⟩

/-- Where a key of the table stands at POS within IN, the shortest such key is a codeword. -/
theorem State.exists_codewordHere {s : State} {t : Table} {m : Nat} (h1 : 1 ≤ m) (hin : s.pos + m ≤ 8 * s.inLen)
    (hm : tableLookup t (codeKey m (codewordAt s.inp s.pos m)) ≠ none) : ∃ len sym, s.codewordHere t len sym := by
  induction m using Nat.strong_induction_on with
  | _ m ih =>
    by_cases hshort : ∃ k, k < m ∧ 1 ≤ k ∧ tableLookup t (codeKey k (codewordAt s.inp s.pos k)) ≠ none
    · obtain ⟨k, hk, hk1, hkey⟩ := hshort
      exact ih k hk hk1 (by omega) hkey
    · obtain ⟨sym, hsym⟩ := Option.ne_none_iff_exists'.mp hm
      refine ⟨m, sym, h1, hin, hsym, fun k hk1 hk => ?_⟩
      by_contra hkey
      exact hshort ⟨k, hk, hk1, hkey⟩

end Sys2Proof.Machine

open Sys2Proof Sys2Proof.Machine

/-- Settles O8: the codeword that begins the next 15 bits ends within IN, or IN has fewer bits left. -/
theorem decodeEndsWithinFifteenBits : Obligations.DecodeEndsWithinFifteenBits := by
  intro lens t s _ hb _
  obtain ⟨m, h1, h15, hm⟩ := build_codeword_within_fifteen hb s.inp s.pos
  by_cases hhere : ∃ len sym, s.codewordHere t len sym
  case pos =>
    obtain ⟨len, sym, hhere⟩ := hhere
    have hdecode := State.decodeSymbol_of_codewordHere hhere
    obtain ⟨hlen1, hin, hsym, hfirst⟩ := hhere
    have hlen : len ≤ m := by
      by_contra hlt
      exact hm (hfirst m h1 (by omega))
    have hkey : codeKey len (codewordAt s.inp s.pos len) < 2 ^ 16 :=
      (codeKey_lt (codewordAt_lt _ _ _)).trans_le (Nat.pow_le_pow_right (by decide) (by omega))
    obtain ⟨_, _, _, hs, _⟩ := build_key hb (mem_of_tableLookup hsym)
    exact .inl ⟨_, sym, _, hdecode, by omega, by omega, hin, by omega, (List.getElem?_eq_some_iff.mp hs).1, hsym⟩
  case neg =>
    have hnone (k : Nat) (hk1 : 1 ≤ k) (hk : s.pos + k ≤ 8 * s.inLen) :
        tableLookup t (codeKey k (codewordAt s.inp s.pos k)) = none := by
      by_contra hkey
      exact hhere (State.exists_codewordHere hk1 hk hkey)
    refine .inr ⟨State.decodeSymbol_of_none hnone, ?_⟩
    by_contra hend
    exact hm (hnone m h1 (by omega))

end

section
/-! PROOFS. The commands of the canonical Huffman unit (spec/41_huffman.md): LB.SET, HC.BLD, HC.DEC. Outside FAILED each
is executed when its operands are in their domain, and refused when they are not (R244). -/

namespace Sys2Proof.Machine

/-! ### The domains of the operands -/

theorem buildSlotOk_iff {slot : Int} : buildSlotOk slot = true ↔ 2 ≤ slot ∧ slot ≤ 4 := by
  simp only [buildSlotOk, inRange, Bool.and_eq_true, decide_eq_true_eq]
  omega

theorem spanOk_iff {base count : Int} : spanOk base count = true ↔ 0 ≤ base ∧ 0 ≤ count ∧ base + count ≤ 320 := by
  simp [spanOk, and_assoc]

theorem decodeSlotOk_iff {slot : Int} : decodeSlotOk slot = true ↔ 0 ≤ slot ∧ slot ≤ 4 := by
  simp only [decodeSlotOk, inRange, Bool.and_eq_true, decide_eq_true_eq]
  omega

theorem lenIndexOk_iff {index : Int} : lenIndexOk index = true ↔ 0 ≤ index ∧ index ≤ 319 := by
  simp only [lenIndexOk, inRange, Config.lenBufSize, Bool.and_eq_true, decide_eq_true_eq]
  omega

theorem codeLengthOk_iff {value : Int} : codeLengthOk value = true ↔ 0 ≤ value ∧ value ≤ 15 := by
  simp only [codeLengthOk, inRange, Bool.and_eq_true, decide_eq_true_eq]
  omega

variable {s : State} (hf : s.bdState ≠ .failed)
include hf

/-! ### LB.SET -/

theorem exec_lbSet_of_ok {index value : Int} (hi : lenIndexOk index = true) (hv : codeLengthOk value = true) :
    exec (.lbSet index value) s =
      .next ({ s with lenBuf := s.lenBuf.set index.toNat value.toNat }.respondOk 0) :=
  (unlessFailed_of_not_failed hf _).trans (if_pos (Bool.and_eq_true_iff.mpr ⟨hi, hv⟩))

theorem exec_lbSet_of_not_ok {index value : Int} (h : ¬ (lenIndexOk index = true ∧ codeLengthOk value = true)) :
    exec (.lbSet index value) s = .next s.refuse :=
  (unlessFailed_of_not_failed hf _).trans (if_neg (mt Bool.and_eq_true_iff.mp h))

/-! ### HC.BLD -/

theorem exec_hcBld_of_build_ok {slot base count : Int} {t : Table} (hs : buildSlotOk slot = true)
    (hspan : spanOk base count = true) (hb : build (s.lenSpan base.toNat count.toNat) = .ok t) :
    exec (.hcBld slot base count) s = .next ((s.setTable slot.toNat (some t)).respondOk 0) := by
  refine (unlessFailed_of_not_failed hf _).trans ((if_pos (Bool.and_eq_true_iff.mpr ⟨hs, hspan⟩)).trans ?_)
  rw [hb]
  rfl

theorem exec_hcBld_of_build_error {slot base count : Int} {k : FaultKind} (hs : buildSlotOk slot = true)
    (hspan : spanOk base count = true) (hb : build (s.lenSpan base.toNat count.toNat) = .error k) :
    exec (.hcBld slot base count) s = .next (s.takeFault k) := by
  refine (unlessFailed_of_not_failed hf _).trans ((if_pos (Bool.and_eq_true_iff.mpr ⟨hs, hspan⟩)).trans ?_)
  rw [hb]
  rfl

theorem exec_hcBld_of_not_ok {slot base count : Int} (h : ¬ (buildSlotOk slot = true ∧ spanOk base count = true)) :
    exec (.hcBld slot base count) s = .next s.refuse :=
  (unlessFailed_of_not_failed hf _).trans (if_neg (mt Bool.and_eq_true_iff.mp h))

/-! ### HC.DEC -/

theorem exec_hcDec_of_decode_ok {slot : Int} {t : Table} {key sym : Nat} {u : State} (hs : decodeSlotOk slot = true)
    (ht : s.table slot.toNat = some t) (hd : s.decodeSymbol t = .ok (key, sym, u)) :
    exec (.hcDec slot) s = .next (u.respondOk sym) := by
  refine (unlessFailed_of_not_failed hf _).trans ((if_pos hs).trans ?_)
  simp only [ht, hd]
  rfl

theorem exec_hcDec_of_decode_error {slot : Int} {t : Table} {k : FaultKind} (hs : decodeSlotOk slot = true)
    (ht : s.table slot.toNat = some t) (hd : s.decodeSymbol t = .error k) :
    exec (.hcDec slot) s = .next (s.takeFault k) := by
  refine (unlessFailed_of_not_failed hf _).trans ((if_pos hs).trans ?_)
  simp only [ht, hd]
  rfl

theorem exec_hcDec_of_empty {slot : Int} (hs : decodeSlotOk slot = true) (ht : s.table slot.toNat = none) :
    exec (.hcDec slot) s = .next s.refuse := by
  refine (unlessFailed_of_not_failed hf _).trans ((if_pos hs).trans ?_)
  rw [ht]

theorem exec_hcDec_of_not_ok {slot : Int} (hs : ¬ decodeSlotOk slot = true) : exec (.hcDec slot) s = .next s.refuse :=
  (unlessFailed_of_not_failed hf _).trans (if_neg hs)

end Sys2Proof.Machine

open Sys2Proof Sys2Proof.Machine

/-- Settles O9: on success the slot is replaced, on a fault of Build it is not, and outside the domain nothing is. -/
theorem hcBldReplacesTheSlot : Obligations.HcBldReplacesTheSlot := by
  intro s hf
  have span {b c : Nat} (h : b + c ≤ 320) : spanOk b c = true := spanOk_iff.mpr (by omega)
  refine ⟨fun b c h t hb => ⟨?_, ?_, ?_⟩, fun a h2 h4 b c h k hb => ?_, fun a b c h => ?_⟩
  · exact exec_hcBld_of_build_ok hf (slot := 2) rfl (span h) hb
  · exact exec_hcBld_of_build_ok hf (slot := 3) rfl (span h) hb
  · exact exec_hcBld_of_build_ok hf (slot := 4) rfl (span h) hb
  · exact exec_hcBld_of_build_error hf (buildSlotOk_iff.mpr ⟨h2, h4⟩) (span h) hb
  · refine exec_hcBld_of_not_ok hf ?_
    rw [buildSlotOk_iff, spanOk_iff]
    omega

/-- Settles O10: by what Decode answers with the table of the slot. -/
theorem hcDecDecodesTheCodewordAtPos : Obligations.HcDecDecodesTheCodewordAtPos := by
  intro s hf
  have slotOk {slot : Nat} (h : slot ≤ 4) : decodeSlotOk slot = true := decodeSlotOk_iff.mpr (by omega)
  refine ⟨fun slot h t ht len sym hc => ?_, fun slot h t ht hnone => ?_, fun slot h ht => ?_, fun a h => ?_⟩
  · exact exec_hcDec_of_decode_ok hf (slotOk h) ht (State.decodeSymbol_of_codewordHere hc)
  · exact exec_hcDec_of_decode_error hf (slotOk h) ht (State.decodeSymbol_of_none hnone)
  · exact exec_hcDec_of_empty hf (slotOk h) ht
  · refine exec_hcDec_of_not_ok hf ?_
    rw [decodeSlotOk_iff]
    omega

/-- Settles O11: the entry is written when both operands are in their domain. -/
theorem lbSetWritesOneLength : Obligations.LbSetWritesOneLength := by
  intro s hf
  refine ⟨fun a b ha hb => ?_, fun a b h => ?_⟩
  · exact exec_lbSet_of_ok hf (lenIndexOk_iff.mpr (by omega)) (codeLengthOk_iff.mpr (by omega))
  · refine exec_lbSet_of_not_ok hf ?_
    rw [lenIndexOk_iff, codeLengthOk_iff]
    omega

end

section
/-! PROOFS. The commands of the sliding window (spec/42_sliding_window.md): SW.APP, SW.CPY. Outside FAILED, SW.APP is
executed when its operand is a byte and refused when it is not (R130); SW.CPY hands on what CopyBack answers (R131). -/

namespace Sys2Proof.Machine

theorem byteOk_iff {b : Int} : byteOk b = true ↔ 0 ≤ b ∧ b ≤ 255 := by
  simp only [byteOk, inRange, Bool.and_eq_true, decide_eq_true_eq]
  omega

/-! ### CopyBack's faults -/

theorem State.copyBack_of_bad_distance {s : State} {d : Int} (l : Int) (h : d < 1 ∨ (s.cnt : Int) < d) :
    s.copyBack d l = .error .invalidDistance := if_pos h

/-- The length is tested behind the distance (R131). -/
theorem State.copyBack_of_negative_length {s : State} {d l : Int} (h1 : 1 ≤ d) (hd : d ≤ s.cnt) (hl : l < 0) :
    s.copyBack d l = .error .invalidLength := (if_neg (by omega)).trans (if_pos hl)

variable {s : State} (hf : s.bdState ≠ .failed)
include hf

/-! ### SW.APP -/

theorem exec_swApp_of_byte {b : Nat} (hb : b < 256) :
    exec (.swApp b) s = .next ((s.append (BitVec.ofNat 8 b)).respondOk 0) := by
  refine (unlessFailed_of_not_failed hf _).trans ((if_pos (byteOk_iff.mpr (by omega))).trans ?_)
  rw [BitVec.ofInt_natCast]

theorem exec_swApp_of_not_byte {b : Int} (h : ¬ byteOk b = true) : exec (.swApp b) s = .next s.refuse :=
  (unlessFailed_of_not_failed hf _).trans (if_neg h)

/-! ### SW.CPY -/

/-- After a copy the host may no longer read OUT (R212). -/
theorem exec_swCpy_of_copyBack_ok {d l : Int} {t : State} (h : s.copyBack d l = .ok t) :
    exec (.swCpy d l) s = .next ({ t with outReady := false }.respondOk 0) := by
  refine (unlessFailed_of_not_failed hf _).trans ?_
  rw [h]
  rfl

theorem exec_swCpy_of_copyBack_error {d l : Int} {k : FaultKind} (h : s.copyBack d l = .error k) :
    exec (.swCpy d l) s = .next (s.takeFault k) := by
  refine (unlessFailed_of_not_failed hf _).trans ?_
  rw [h]
  rfl

end Sys2Proof.Machine

open Sys2Proof Sys2Proof.Machine

/-- Settles O14: by what CopyBack answers; on success the state is that of the copy loop, which reads from `d` bytes
behind the cursor. -/
theorem swCpyRepeatsTheLastBytes : Obligations.SwCpyRepeatsTheLastBytes := by
  intro s hf
  refine ⟨fun d l h => ?_, fun d l h1 hd hl => ?_, fun d l h1 hd hcnt hcur => ?_⟩
  · exact exec_swCpy_of_copyBack_error hf (State.copyBack_of_bad_distance l h)
  · exact exec_swCpy_of_copyBack_error hf (State.copyBack_of_negative_length h1 hd hl)
  · have hd2 : d ≤ 32768 := Nat.le_trans hd hcnt
    obtain ⟨-, hcopied, hkept⟩ := copyLoop_spec s d l _ h1 hd2 hcur rfl
    have hexec := exec_swCpy_of_copyBack_ok hf (State.copyBack_ok l h1 hd hcnt hcur)
    refine ⟨_, hexec, ?_, rfl, hcopied, hkept⟩
    exact congrArg (State.respondOk { · with outReady := false } 0) (copyLoop_eq l h1 hd2 hcnt hcur rfl)

/-- Settles O13: a byte is appended, and what is no byte is refused. -/
theorem swAppAppendsToTheWindowOnly : Obligations.SwAppAppendsToTheWindowOnly := by
  intro s hf
  refine ⟨fun b hb => ⟨_, exec_swApp_of_byte hf hb, rfl, ?_, fun a ha => ?_⟩, fun b h => ?_⟩
  · exact (State.append_windowByte s _ s.cur).trans (if_pos rfl)
  · exact (State.append_windowByte s _ a).trans (if_neg ha)
  · refine exec_swApp_of_not_byte hf ?_
    rw [byteOk_iff]
    omega

end

section
/-! PROOFS. A step inside a run (R150 to R159, R190 to R196): the block decoder reads a value at its place and acts on
it; the row that the value decodes to does the same, and a value that is no row faults as the decoder does. -/

namespace Sys2Proof.Machine

/-- What the block decoder does at a place with the value it has read there, a field or a decoded symbol. -/
def Phase.act (p : Phase) (s : State) (w : Nat) : Except FaultKind State :=
  match p with
  | .idle => .ok s
  | .header => s.blockHeader (w % 2 == 1) (w / 2)
  | .storedPad => .ok s.skipPadding
  | .storedLen => .ok (s.storedLength w)
  | .storedNlen len => s.storedComplement len w
  | .storedData left => .ok (s.storedByte left w)
  | .preHlit => .ok (s.setHlit w)
  | .preHdist => .ok (s.setHdist w)
  | .preHclen => .ok (s.setHclen w)
  | .preCll group => s.setGroup group w
  | .codeLength => s.codeLengthSymbol w
  | .symbol => s.literalLengthSymbol w
  | .distance run => s.distanceSymbol run w

/-! ### The next element: a read, then the action of the place -/

theorem State.nextElement_field {s : State} {f : Format} {n : Nat} (h : fieldOfPhase s.phase = some (f, n)) :
    s.nextElement = (s.readUint n).bind fun r => s.phase.act r.2 r.1 := by
  unfold State.nextElement
  cases hp : s.phase <;> rw [hp] at h <;> cases h
  case header | preCll => dsimp only; cases s.readUint (3 : Nat) <;> rfl
  case storedLen | storedNlen => dsimp only; cases s.readUint (16 : Nat) <;> rfl
  case storedData => dsimp only [State.readByte]; cases s.readUint (8 : Nat) <;> rfl
  case preHlit | preHdist => dsimp only; cases s.readUint (5 : Nat) <;> rfl
  case preHclen => dsimp only; cases s.readUint (4 : Nat) <;> rfl

theorem State.nextElement_codeLength {s : State} (h : s.phase = .codeLength) :
    s.nextElement = (s.decodeSymbol (s.tblClc.getD [])).bind fun r => s.phase.act r.2.2 r.2.1 := by
  rw [State.nextElement, h]
  dsimp only
  cases s.decodeSymbol (s.tblClc.getD []) <;> rfl

theorem State.nextElement_symbol {s : State} (h : s.phase = .symbol) :
    s.nextElement = (s.decodeSymbol s.tableInForce).bind fun r => s.phase.act r.2.2 r.2.1 := by
  rw [State.nextElement, h]
  dsimp only
  cases s.decodeSymbol s.tableInForce <;> rfl

theorem State.nextElement_distance {s : State} {run : Nat} (h : s.phase = .distance run) :
    s.nextElement = (s.decodeSymbol s.distanceTableInForce).bind fun r => s.phase.act r.2.2 r.2.1 := by
  rw [State.nextElement, h]
  dsimp only
  cases s.decodeSymbol s.distanceTableInForce <;> rfl

/-- The places that read no field: outside a run, at padding, and where a codeword comes next. -/
theorem fieldOfPhase_eq_none {p : Phase} (h : fieldOfPhase p = none) :
    p = .idle ∨ p = .storedPad ∨ p = .codeLength ∨ p = .symbol ∨ ∃ run, p = .distance run := by
  cases p <;> simp [fieldOfPhase] at h ⊢

theorem fieldOfPhase_ne_storedPad {p : Phase} {f : Format} {n : Nat} (h : fieldOfPhase p = some (f, n)) :
    f ≠ .storedPad := by
  rintro rfl
  cases p <;> cases h

/-- An element that does not fault: a read that at most moves POS, then the action of the place. -/
theorem State.act_of_nextElement {s t : State} (h : s.nextElement = .ok t) :
    ∃ p w, s.phase.act (s.withPos p) w = .ok t := by
  have codeword : ∀ {tbl : Table}, (s.decodeSymbol tbl).bind (fun r => s.phase.act r.2.2 r.2.1) = .ok t →
      ∃ p w, s.phase.act (s.withPos p) w = .ok t := fun {tbl} h => by
    cases hr : s.decodeSymbol tbl with
    | error k => rw [hr] at h; cases h
    | ok r =>
      obtain ⟨p, hp, _⟩ := State.decodeSymbol_ok (key := r.1) (sym := r.2.1) (t := r.2.2) hr
      rw [hr] at h
      change s.phase.act r.2.2 r.2.1 = _ at h
      exact ⟨p, r.2.1, hp ▸ h⟩
  cases hf : fieldOfPhase s.phase with
  | some r =>
    rw [State.nextElement_field hf] at h
    cases hr : s.readUint (r.2 : Nat) with
    | error k => rw [hr] at h; cases h
    | ok v =>
      obtain ⟨-, -, ht⟩ := State.eq_of_readUint_eq_ok (v := v.1) (t := v.2) hr
      rw [hr] at h
      change s.phase.act v.2 v.1 = _ at h
      exact ⟨_, v.1, ht ▸ h⟩
  | none =>
    obtain hp | hp | hp | hp | ⟨run, hp⟩ := fieldOfPhase_eq_none hf
    · rw [State.nextElement, hp] at h; rw [hp]; exact ⟨s.pos, 0, h⟩
    · rw [State.nextElement, hp] at h; rw [hp]; exact ⟨s.pos, 0, h⟩
    · rw [State.nextElement_codeLength hp] at h; exact codeword h
    · rw [State.nextElement_symbol hp] at h; exact codeword h
    · rw [State.nextElement_distance hp] at h; exact codeword h

/-! ### The row of an element at its place -/

/-- The row of a field, where the block decoder reads that field. -/
theorem exec_of_field {i : Instr} {s : State} {f : Format} {n w : Nat} (hi : encode i = .element f w)
    (hf : fieldOfPhase s.phase = some (f, n)) : exec i s = finish s (s.phase.act s w) := by
  have place : ∀ {p : Phase} (r : Except FaultKind State), s.phase = p → inPlace (s.phase == p) s r = finish s r :=
    fun r hp => by rw [beq_iff_eq.mpr hp, inPlace_true]
  cases hp : s.phase <;> rw [hp] at hf <;> cases hf
  case header =>
    obtain ⟨fin, ty, -, rfl, hx⟩ := exec_of_hdr hi
    have hfin : ((fin.toNat + 2 * ty) % 2 == 1) = fin := by cases fin <;> simp
    have hty : (fin.toNat + 2 * ty) / 2 = ty := by have := fin.toNat_lt; omega
    rw [hx, place _ hp, Phase.act, hfin, hty]
  case storedLen => rw [exec_of_storedLen hi]; exact place _ hp
  case storedNlen => rw [exec_of_storedNlen hi, execStoredNlen, hp]; rfl
  case storedData => rw [exec_of_storedData hi, execStoredData, hp]; rfl
  case preHlit => rw [exec_of_preHlit hi]; exact place _ hp
  case preHdist => rw [exec_of_preHdist hi]; exact place _ hp
  case preHclen => rw [exec_of_preHclen hi]; exact place _ hp
  case preCll => rw [exec_of_preCll hi]; exact place _ hp

theorem exec_storedPad {s : State} (hp : s.phase = .storedPad) : exec .storedPad s = finish s (.ok s.skipPadding) := by
  change inPlace (s.phase == .storedPad) s _ = _
  rw [beq_iff_eq.mpr hp, inPlace_true]

theorem exec_of_codeLength {i : Instr} {s : State} {sym : Nat} (hi : encode i = .element .clSymbol sym)
    (hp : s.phase = .codeLength) : exec i s = finish s (s.codeLengthSymbol sym) := by
  rw [exec_of_clSymbol hi, codeLengthElement, beq_iff_eq.mpr hp, inPlace_true]

/-- Every row of a literal/length symbol, where a Huffman block reads one. -/
theorem exec_of_literalLength {i : Instr} {s : State} {sym : Nat} (hi : standsForLiteralLength i s sym)
    (hp : s.phase = .symbol) : exec i s = finish s (s.literalLengthSymbol sym) := by
  rw [exec_of_standsForLiteralLength hi, literalLengthElement, beq_iff_eq.mpr hp, inPlace_true]

/-- Every row of a distance symbol, where a back-reference reads one. -/
theorem exec_of_distance {i : Instr} {s : State} {sym run : Nat} (hi : standsForDistance i s sym)
    (hp : s.phase = .distance run) : exec i s = finish s (s.distanceSymbol run sym) := by
  rw [exec_of_standsForDistance hi, distanceElement_of_phase hp]

/-! ### Decoded values and rows agree -/

/-- Presented in state `t`, the encoding `e` does `r`: as its row, or as the fault of a number that is no row. -/
def Agrees (e : Encoded) (t : State) (r : Except FaultKind State) : Prop :=
  (∃ i, decode e = .ok i ∧ exec i t = finish t r) ∨ ∃ why, decode e = .error why ∧ r = .error (rejectFault why)

/-- It suffices to know the rows, and what becomes of a number that is no row. -/
theorem Agrees.intro {e : Encoded} {t : State} {r : Except FaultKind State}
    (row : ∀ i, decode e = .ok i → exec i t = finish t r)
    (noRow : ∀ why, decode e = .error why → r = .error (rejectFault why)) : Agrees e t r := by
  cases hd : decode e with
  | ok i => exact .inl ⟨i, hd, row i hd⟩
  | error why => exact .inr ⟨why, hd, noRow why hd⟩

theorem rowOr_error {rows : List Instr} {n : Nat} {why why' : Reject} (h : rowOr rows n why = .error why') :
    why' = why ∧ rows.length ≤ n := by
  unfold rowOr at h
  split at h
  · cases h
  · next hn => cases h; exact ⟨rfl, List.getElem?_eq_none_iff.mp hn⟩

/-- A field of its width is always a row; the groups are those of CLL (R72). -/
theorem Agrees.field {t : State} {f : Format} {n w : Nat} (hf : fieldOfPhase t.phase = some (f, n))
    (hg : ∀ g, t.phase = .preCll g → g < 19) (hw : w < 2 ^ n) : Agrees (.element f w) t (t.phase.act t w) := by
  have hpad := fieldOfPhase_ne_storedPad hf
  refine .intro (fun i hd => exec_of_field (encode_of_decode_element hpad hd).2 hf) fun why hd => ?_
  have field : ∀ {width : Nat} {mk : Nat → Instr} {why' : Reject}, w < 2 ^ width →
      decodeField width mk why' w ≠ .error why := fun hw h => by
    rw [decodeField, if_pos hw] at h; cases h
  exfalso
  cases hp : t.phase <;> rw [hp] at hf <;> cases hf
  case header =>
    have hw8 : w < 8 := hw
    interval_cases w <;> cases hd
  case preCll g =>
    have hg19 := hg g hp
    replace hd : groupRow g w = _ := (if_pos hw).symm.trans hd
    interval_cases g <;> cases hd
  all_goals exact field hw hd

theorem Agrees.clSymbol {t : State} (hp : t.phase = .codeLength) (sym : Nat) :
    Agrees (.element .clSymbol sym) t (t.codeLengthSymbol sym) := by
  refine .intro (fun i hd => exec_of_codeLength (encode_of_decode_element (by decide) hd).2 hp) fun why hd => ?_
  obtain ⟨rfl, hn⟩ := rowOr_error hd
  change 19 ≤ sym at hn
  rw [State.codeLengthSymbol, if_neg (by omega), State.repeatOf, if_neg (by omega), if_neg (by omega),
    if_neg (by omega)]
  rfl

theorem Agrees.llSymbol {t : State} (hp : t.phase = .symbol) (sym : Nat) :
    Agrees (.element .llSymbol sym) t (t.literalLengthSymbol sym) := by
  refine .intro (fun i hd => exec_of_literalLength (.inl (encode_of_decode_element (by decide) hd).2) hp)
    fun why hd => ?_
  change decodeLiteralLength sym = _ at hd
  unfold decodeLiteralLength at hd
  split at hd
  · cases hd
  split at hd
  · cases hd
  obtain ⟨rfl, hn⟩ := rowOr_error hd
  change 31 ≤ sym - 257 at hn
  exact (if_neg (by omega)).trans ((if_neg (by omega)).trans (if_neg (by omega)))

theorem Agrees.dSymbol {t : State} {run : Nat} (hp : t.phase = .distance run) (sym : Nat) :
    Agrees (.element .dSymbol sym) t (t.distanceSymbol run sym) := by
  refine .intro (fun i hd => exec_of_distance (.inl (encode_of_decode_element (by decide) hd).2) hp) fun why hd => ?_
  obtain ⟨rfl, hn⟩ := rowOr_error hd
  change 32 ≤ sym at hn
  rw [State.distanceSymbol, State.distanceOf, if_neg (by omega), if_neg (by omega)]
  rfl

theorem fixedLLRows_length : fixedLLRows.length = 288 := by
  simp only [fixedLLRows, List.length_append]
  rfl

theorem Agrees.fixedLL {t : State} (hp : t.phase = .symbol) (hb : t.bdState = .fixedHuffmanBlock) {key sym : Nat}
    (hk : fixedLLSymbolOfKey key = some sym) : Agrees (.element .fixedLL key) t (t.literalLengthSymbol sym) := by
  refine .intro (fun i hd => exec_of_literalLength (.inr ⟨hb, key, (encode_of_decode_fixedLL hd).2, hk⟩) hp)
    fun why hd => ?_
  simp only [decode, decodeElement, hk] at hd
  obtain ⟨-, hn⟩ := rowOr_error hd
  rw [fixedLLRows_length] at hn
  unfold fixedLLSymbolOfKey at hk
  split_ifs at hk <;> rw [Option.some.injEq] at hk <;> omega

theorem Agrees.fixedD {t : State} {run : Nat} (hp : t.phase = .distance run) (hb : t.bdState = .fixedHuffmanBlock)
    {key sym : Nat} (hk : fixedDSymbolOfKey key = some sym) :
    Agrees (.element .fixedD key) t (t.distanceSymbol run sym) := by
  refine .intro (fun i hd => exec_of_distance (.inr ⟨hb, key, (encode_of_decode_fixedD hd).2, hk⟩) hp) fun why hd => ?_
  simp only [decode, decodeElement, hk] at hd
  obtain ⟨-, hn⟩ := rowOr_error hd
  change 32 ≤ sym at hn
  obtain ⟨hkey, hlt⟩ := fixedDSymbolOfKey_some hk
  omega

/-- Every key of the fixed literal/length table names its row (R74). -/
theorem fixedLLTable_keys : ∀ e ∈ fixedLLTable.getD [], fixedLLSymbolOfKey e.1 = some e.2 := by decide +kernel

/-- Every key of the fixed distance table names its row (R74). -/
theorem fixedDTable_keys : ∀ e ∈ fixedDTable.getD [], fixedDSymbolOfKey e.1 = some e.2 := by decide +kernel

/-! ### A step inside a run -/

/-- A fetch that presents what agrees with the block decoder makes the step that of the block decoder. -/
theorem step_of_agrees {s : State} {e : Encoded} {p : Nat} (hf : fetch s = deliver e (s.withPos p))
    (ha : Agrees e (s.withPos p) s.nextElement) : step s = .next s.elementStep := by
  obtain ⟨i, hd, hx⟩ | ⟨why, hd, hr⟩ := ha
  · rw [step_of_fetch_instr (hf.trans (deliver_of_decode hd _)), hx, State.elementStep]
    cases s.nextElement <;> rfl
  · rw [step_of_fetch_fault (k := rejectFault why) (by rw [hf, deliver, hd]), State.elementStep, hr]

theorem step_of_fault {s : State} {k : FaultKind} (hf : fetch s = .fault k) (hr : s.nextElement = .error k) :
    step s = .next s.elementStep := by
  rw [step_of_fetch_fault hf, State.elementStep, hr]

theorem step_of_field {s : State} {f : Format} {n : Nat} (hf : fieldOfPhase s.phase = some (f, n))
    (hg : ∀ g, s.phase = .preCll g → g < 19) : step s = .next s.elementStep := by
  have hn := fieldOfPhase_width_le hf
  have hnext := State.nextElement_field hf
  have hfetch := fetch_of_fieldOfPhase hf
  by_cases hle : s.pos + n ≤ 8 * s.inLen
  · have hr := State.readUint_ok hn hle
    rw [hr] at hnext
    refine step_of_agrees (p := s.pos + n) (by rw [hfetch, fetchField, hr]) ?_
    rw [hnext]
    exact .field (t := s.withPos (s.pos + n)) hf hg (bitsAt_lt _ _ _)
  · have hr := State.readUint_end hn (Nat.lt_of_not_le hle)
    rw [hr] at hnext
    exact step_of_fault (hfetch.trans (fetchField_end f hn (Nat.lt_of_not_le hle))) hnext

/-- A place that reads a codeword and delivers its symbol. -/
theorem step_of_symbol {s : State} {f : Format} {tbl : Table} (hfetch : fetch s = fetchSymbol s f tbl)
    (hnext : s.nextElement = (s.decodeSymbol tbl).bind fun r => s.phase.act r.2.2 r.2.1)
    (ha : ∀ p sym, Agrees (.element f sym) (s.withPos p) (s.phase.act (s.withPos p) sym)) :
    step s = .next s.elementStep := by
  cases hr : s.decodeSymbol tbl with
  | error k =>
    rw [hr] at hnext
    exact step_of_fault (hfetch.trans (fetchSymbol_end f hr)) hnext
  | ok r =>
    obtain ⟨key, sym, t⟩ := r
    obtain ⟨p, rfl, _⟩ := State.decodeSymbol_ok hr
    rw [hr] at hnext
    refine step_of_agrees (p := p) (by rw [hfetch, fetchSymbol, hr]) ?_
    rw [hnext]
    exact ha p sym

/-- A place that reads a codeword of a fixed table and delivers its key. -/
theorem step_of_key {s : State} {f : Format} {tbl : Table} (hfetch : fetch s = fetchKey s f tbl)
    (hnext : s.nextElement = (s.decodeSymbol tbl).bind fun r => s.phase.act r.2.2 r.2.1)
    (ha : ∀ p key sym, (key, sym) ∈ tbl → Agrees (.element f key) (s.withPos p) (s.phase.act (s.withPos p) sym)) :
    step s = .next s.elementStep := by
  cases hr : s.decodeSymbol tbl with
  | error k =>
    rw [hr] at hnext
    exact step_of_fault (hfetch.trans (fetchKey_end f hr)) hnext
  | ok r =>
    obtain ⟨key, sym, t⟩ := r
    obtain ⟨p, rfl, _, _, hkey⟩ := State.decodeSymbol_ok hr
    rw [hr] at hnext
    refine step_of_agrees (p := p) (by rw [hfetch, fetchKey, hr]) ?_
    rw [hnext]
    exact ha p key sym (mem_of_tableLookup hkey)

/-- Inside a run a step by rows is an element of the block decoder. -/
theorem State.Inv.step_eq_elementStep {s : State} (h : s.Inv) (hp : s.phase ≠ .idle) :
    Machine.step s = .next s.elementStep := by
  have hpl := h.place
  cases hf : fieldOfPhase s.phase with
  | some r =>
    refine step_of_field (f := r.1) (n := r.2) hf fun g hg => ?_
    rw [State.placeOk, hg] at hpl
    exact Nat.lt_of_lt_of_le hpl.2 h.nclen_range.2
  | none =>
    obtain hph | hph | hph | hph | ⟨run, hph⟩ := fieldOfPhase_eq_none hf
    · exact absurd hph hp
    · refine step_of_agrees (e := .element .storedPad 0) (p := s.pos) (by rw [fetch, hph]; rfl)
        (.inl ⟨.storedPad, rfl, ?_⟩)
      rw [State.nextElement, hph]
      exact exec_storedPad hph
    · refine step_of_symbol (by rw [fetch, hph]) (State.nextElement_codeLength hph) fun p sym => ?_
      rw [hph]
      exact .clSymbol (t := s.withPos p) hph sym
    · by_cases hb : s.bdState = .fixedHuffmanBlock
      · refine step_of_key (f := .fixedLL) (by simp only [fetch, hph, if_pos hb]) (State.nextElement_symbol hph)
          fun p key sym hmem => ?_
        rw [State.tableInForce, if_pos hb, h.fixedLL] at hmem
        rw [hph]
        exact .fixedLL (t := s.withPos p) hph hb (fixedLLTable_keys _ hmem)
      · refine step_of_symbol (f := .llSymbol) (by simp only [fetch, hph, if_neg hb]) (State.nextElement_symbol hph)
          fun p sym => ?_
        rw [hph]
        exact .llSymbol (t := s.withPos p) hph sym
    · by_cases hb : s.bdState = .fixedHuffmanBlock
      · refine step_of_key (f := .fixedD) (by simp only [fetch, hph, if_pos hb]) (State.nextElement_distance hph)
          fun p key sym hmem => ?_
        rw [State.distanceTableInForce, if_pos hb, h.fixedD] at hmem
        rw [hph]
        exact .fixedD (t := s.withPos p) hph hb (fixedDTable_keys _ hmem)
      · refine step_of_symbol (f := .dSymbol) (by simp only [fetch, hph, if_neg hb]) (State.nextElement_distance hph)
          fun p sym => ?_
        rw [hph]
        exact .dSymbol (t := s.withPos p) hph sym

end Sys2Proof.Machine

open Sys2Proof Sys2Proof.Machine

/-- Settles O52: at every place of a run, the row of the value read there does what the block decoder does with it. -/
theorem rowsAgreeWithTheBlockDecoder : Obligations.RowsAgreeWithTheBlockDecoder :=
  fun _ => State.Inv.step_eq_elementStep

end


section
/-! PROOFS. A step always answers a next state (spec/60_exceptions.md R220, R244): every command is answered, a fetch
that faults leads to FAILED, and a stream element is fetched only at its place. -/

namespace Sys2Proof.Machine

theorem unlessFailed_next (s : State) {r : Result} (h : ∃ t, r = .next t) : ∃ t, unlessFailed s r = .next t := by
  unfold unlessFailed
  split
  · exact ⟨_, rfl⟩
  · exact h

theorem exec_command_next {i : Instr} (hi : isCommand i) (s : State) : ∃ t, exec i s = .next t := by
  obtain ⟨c, hc⟩ := hi
  cases i
  case reset => exact ⟨_, rfl⟩
  case brPos | bdRun => exact unlessFailed_next s ⟨_, rfl⟩
  case brTry => exact unlessFailed_next s (by split <;> exact ⟨_, rfl⟩)
  case brRdu | swCpy => exact unlessFailed_next s (finish_next s _)
  case hcBld =>
    refine unlessFailed_next s ?_
    split
    · exact finish_next s _
    · exact ⟨_, rfl⟩
  case hcDec =>
    refine unlessFailed_next s ?_
    split
    · split
      · exact ⟨_, rfl⟩
      · exact finish_next s _
    · exact ⟨_, rfl⟩
  case swApp | lbSet => exact unlessFailed_next s (by split <;> exact ⟨_, rfl⟩)
  case csrRd =>
    change ∃ t, execCsrRd _ s = _
    unfold execCsrRd
    split
    · split <;> exact ⟨_, rfl⟩
    · exact ⟨_, rfl⟩
  case reserved11 | reserved12 | reserved13 | reserved14 | reserved15 => exact ⟨_, rfl⟩
  all_goals cases hc

/-! ### A stream element is fetched at its place -/

/-- What is delivered, other than padding, is a row of that format, to run in the state it was delivered for. -/
theorem encode_of_deliver {f : Format} {w : Nat} {t u : State} {i : Instr} (hf : f ≠ .storedPad)
    (h : deliver (.element f w) t = .instr i u) : encode i = .element f w ∧ u = t := by
  obtain ⟨hd, hu⟩ := deliver_instr h
  exact ⟨(encode_of_decode_element hf hd).2, hu⟩

theorem encode_of_fetchField {s u : State} {f : Format} {n : Nat} {i : Instr} (hf : f ≠ .storedPad)
    (h : fetchField s f n = .instr i u) : ∃ w, encode i = .element f w ∧ u.phase = s.phase := by
  unfold fetchField at h
  split at h
  · next hr =>
    obtain ⟨hi, rfl⟩ := encode_of_deliver hf h
    exact ⟨_, hi, (Onward.readUint hr).2.1⟩
  · cases h

/-- The same for what is delivered behind a codeword, its symbol or its key. -/
theorem encode_of_deliver_codeword {s t u : State} {f : Format} {tbl : Table} {key sym w : Nat} {i : Instr}
    (hf : f ≠ .storedPad) (hr : s.decodeSymbol tbl = .ok (key, sym, t)) (h : deliver (.element f w) t = .instr i u) :
    ∃ w p, encode i = .element f w ∧ u = s.withPos p := by
  obtain ⟨hi, rfl⟩ := encode_of_deliver hf h
  obtain ⟨p, hp, _⟩ := State.decodeSymbol_ok hr
  exact ⟨w, p, hi, hp⟩

theorem encode_of_fetchSymbol {s u : State} {f : Format} {tbl : Table} {i : Instr} (hf : f ≠ .storedPad)
    (h : fetchSymbol s f tbl = .instr i u) : ∃ w p, encode i = .element f w ∧ u = s.withPos p := by
  unfold fetchSymbol at h
  split at h
  · next hr => exact encode_of_deliver_codeword hf hr h
  · cases h

theorem encode_of_fetchKey {s u : State} {f : Format} {tbl : Table} {i : Instr} (hf : f ≠ .storedPad)
    (h : fetchKey s f tbl = .instr i u) : ∃ w p, encode i = .element f w ∧ u = s.withPos p := by
  unfold fetchKey at h
  split at h
  · next hr => exact encode_of_deliver_codeword hf hr h
  · cases h

/-- Whatever row a fetch inside a run finds, it is at its place: it ends as an operation that may raise. -/
theorem exec_fetched_of_running {s u : State} {i : Instr} (hp : s.phase ≠ .idle) (h : fetch s = .instr i u) :
    ∃ r, exec i u = finish u r := by
  cases hf : fieldOfPhase s.phase with
  | some r =>
    rw [fetch_of_fieldOfPhase (f := r.1) (n := r.2) hf] at h
    obtain ⟨w, hi, hu⟩ := encode_of_fetchField (fieldOfPhase_ne_storedPad hf) h
    exact ⟨_, exec_of_field hi (hu ▸ hf)⟩
  | none =>
    unfold fetch at h
    obtain hph | hph | hph | hph | ⟨run, hph⟩ := fieldOfPhase_eq_none hf <;> rw [hph] at h
    · exact absurd hph hp
    · obtain ⟨hd, rfl⟩ := deliver_instr h
      cases hd
      exact ⟨_, exec_storedPad hph⟩
    · obtain ⟨sym, p, hi, rfl⟩ := encode_of_fetchSymbol (by decide) h
      exact ⟨_, exec_of_codeLength hi hph⟩
    · dsimp only at h
      split at h
      · next hb =>
        obtain ⟨key, p, hi, rfl⟩ := encode_of_fetchKey (by decide) h
        obtain ⟨sym, hk⟩ := fixedLL_key_some hi
        exact ⟨_, exec_of_literalLength (.inr ⟨hb, key, hi, hk⟩) hph⟩
      · obtain ⟨sym, p, hi, rfl⟩ := encode_of_fetchSymbol (by decide) h
        exact ⟨_, exec_of_literalLength (.inl hi) hph⟩
    · dsimp only at h
      split at h
      · next hb =>
        obtain ⟨key, p, hi, rfl⟩ := encode_of_fetchKey (by decide) h
        obtain ⟨sym, hk⟩ := fixedD_key_some hi
        exact ⟨_, exec_of_distance (.inr ⟨hb, key, hi, hk⟩) hph⟩
      · obtain ⟨sym, p, hi, rfl⟩ := encode_of_fetchSymbol (by decide) h
        exact ⟨_, exec_of_distance (.inl hi) hph⟩

theorem exec_fetched_next {s u : State} {i : Instr} (h : fetch s = .instr i u) : ∃ t, exec i u = .next t := by
  by_cases hp : s.phase = .idle
  · exact exec_command_next (fetch_instr_of_idle hp h).1 u
  · obtain ⟨r, hx⟩ := exec_fetched_of_running hp h
    exact hx ▸ finish_next u r

end Sys2Proof.Machine

open Sys2Proof Sys2Proof.Machine

/-- Settles O53: by the three things a fetch can find. -/
theorem stepNeverStops : Obligations.StepNeverStops := by
  intro s
  cases hf : fetch s with
  | wait => exact ⟨s, by rw [step, hf]⟩
  | instr i u => rw [step_of_fetch_instr hf]; exact exec_fetched_next hf
  | fault k => exact ⟨_, step_of_fetch_fault hf⟩

end

section
/-! PROOFS. BD.RUN (spec/45_top_level.md R210 to R213) and the window's history (spec/43_block_decoder.md R156,
spec/10_state.md R18): OUT and the window receive the same bytes, one Emit after another, and nothing else in a run
touches either. -/

namespace Sys2Proof.Machine

/-! ### The history of a run -/

/-- What the history speaks of: OUT and the window. -/
def State.history (s : State) : List Byte × Memory × Nat × Nat := (s.out, s.win, s.cur, s.cnt)

theorem State.HistoryIsOut.of_history_eq {s t : State} (h : s.HistoryIsOut) (e : t.history = s.history) :
    t.HistoryIsOut := by
  simp only [State.history, Prod.mk.injEq] at e
  obtain ⟨hout, hwin, hcur, hcnt⟩ := e
  constructor
  · rw [hcnt, hout]; exact h.cnt_eq
  · rw [hcur, hout]; exact h.cur_eq
  · rw [hcnt, hout, hwin, hcur]; exact h.byte_eq

/-- Emit: the new byte is the last of OUT and one behind the cursor, and every older one is one further back in both. -/
theorem State.HistoryIsOut.emit {s : State} (h : s.HistoryIsOut) (b : Byte) : (s.emit b).HistoryIsOut := by
  have hcnt : s.cnt = min s.out.length 32768 := h.cnt_eq
  have hcur : s.cur = s.out.length % 32768 := h.cur_eq
  have hlen : (s.emit b).out.length = s.out.length + 1 := List.length_append
  refine ⟨?cnt, ?cur, fun d h1 hd => ?byte⟩
  case cnt =>
    rw [hlen]
    show min (s.cnt + 1) 32768 = min (s.out.length + 1) 32768
    omega
  case cur =>
    rw [hlen]
    show (s.cur + 1) % 32768 = (s.out.length + 1) % 32768
    omega
  case byte =>
    replace hd : d ≤ min (s.cnt + 1) 32768 := hd
    rw [hlen]
    show (s.out ++ [b])[s.out.length + 1 - d]? =
      Memory.read (Memory.write s.win s.cur b) (((s.cur + 1) % 32768 + 32768 - d) % 32768)
    by_cases hd1 : d = 1
    · subst hd1
      rw [show ((s.cur + 1) % 32768 + 32768 - 1) % 32768 = s.cur by omega, Memory.read_write_same]
      exact List.getElem?_concat_length
    · have old := h.byte_eq (d - 1) (by omega) (by omega)
      rw [Memory.read_write_other _ b (by omega), List.getElem?_append_left (by omega),
        show s.out.length + 1 - d = s.out.length - (d - 1) by omega, old]
      congr 1
      show (s.cur + 32768 - (d - 1)) % 32768 = _
      omega

theorem State.HistoryIsOut.copyLoop {s : State} (h : s.HistoryIsOut) (r n : Nat) :
    (copyLoop s r n).HistoryIsOut := by
  induction n generalizing s r with
  | zero => exact h
  | succ n ih => exact ih (h.emit _) _

theorem State.history_endBlock (s : State) : s.endBlock.history = s.history := by
  unfold State.endBlock
  split <;> rfl

theorem State.history_pushLengths (s : State) (n v : Nat) : (s.pushLengths n v).history = s.history := by
  induction n generalizing s with
  | zero => rfl
  | succ n ih => exact ih (s.pushLength v)

theorem State.history_buildBlockTables {s t : State} (h : s.buildBlockTables = .ok t) : t.history = s.history := by
  unfold State.buildBlockTables State.buildDistanceTable at h
  dsimp only at h
  split at h
  · cases h
  split at h
  · split at h
    · cases h; rfl
    · split at h <;> cases h
      rfl
  · cases h

theorem State.history_afterLengths {s t : State} (h : s.afterLengths = .ok t) : t.history = s.history := by
  unfold State.afterLengths at h
  split at h
  · cases h; rfl
  · exact State.history_buildBlockTables h

theorem State.history_codeLengthSymbol {s t : State} {sym : Nat} (h : s.codeLengthSymbol sym = .ok t) :
    t.history = s.history := by
  unfold State.codeLengthSymbol at h
  split at h
  · exact (State.history_afterLengths h).trans (s.history_pushLengths 1 sym)
  split at h
  · next hr =>
    obtain ⟨⟨p, rfl, _⟩, _⟩ := State.repeatOf_ok hr
    split at h
    · cases h
    · exact (State.history_afterLengths h).trans (State.history_pushLengths _ _ _)
  · cases h

theorem State.history_blockHeader {s t : State} {f : Bool} {ty : Nat} (h : s.blockHeader f ty = .ok t) :
    t.history = s.history := by
  unfold State.blockHeader at h
  split at h <;> cases h <;> rfl

theorem State.history_setGroup {s t : State} {g v : Nat} (h : s.setGroup g v = .ok t) : t.history = s.history := by
  unfold State.setGroup State.buildCodeLengthCode at h
  dsimp only at h
  split at h
  · cases h; rfl
  · split at h <;> cases h
    rfl

theorem State.history_storedComplement {s t : State} {len w : Nat} (h : s.storedComplement len w = .ok t) :
    t.history = s.history := by
  unfold State.storedComplement at h
  split at h <;> cases h
  split
  · exact s.history_endBlock
  · rfl

theorem State.history_lengthSymbol {s t : State} {sym : Nat} (h : s.lengthSymbol sym = .ok t) :
    t.history = s.history := by
  unfold State.lengthSymbol at h
  split at h
  · cases h
  · next hu =>
    obtain ⟨p, rfl, _⟩ := State.runLength_ok hu
    split at h
    · cases h
    split at h <;> cases h
    rfl

theorem State.HistoryIsOut.storedByte {s : State} (h : s.HistoryIsOut) (left b : Nat) :
    (s.storedByte left b).HistoryIsOut := by
  unfold State.storedByte
  dsimp only
  split
  · exact (h.emit _).of_history_eq (State.history_endBlock _)
  · exact (h.emit _).of_history_eq rfl

theorem State.HistoryIsOut.literalLengthSymbol {s t : State} (h : s.HistoryIsOut) {sym : Nat}
    (he : s.literalLengthSymbol sym = .ok t) : t.HistoryIsOut := by
  unfold State.literalLengthSymbol at he
  split at he
  · cases he; exact h.of_history_eq s.history_endBlock
  split at he
  · cases he; exact (h.emit _).of_history_eq rfl
  split at he
  · exact h.of_history_eq (State.history_lengthSymbol he)
  · cases he

theorem State.HistoryIsOut.distanceSymbol {s t : State} (h : s.HistoryIsOut) {run sym : Nat}
    (he : s.distanceSymbol run sym = .ok t) : t.HistoryIsOut := by
  unfold State.distanceSymbol at he
  split at he
  · cases he
  · next hu =>
    obtain ⟨p, rfl, _⟩ := State.distanceOf_ok hu
    split at he
    · cases he
    split at he
    · next hw =>
      cases he
      obtain ⟨_, hx⟩ | ⟨_, _, _, hx⟩ | ⟨_, _, _, hx⟩ := State.copyBack_cases hw <;> cases hx
      exact ((h.of_history_eq (t := s.withPos p) rfl).copyLoop _ _).of_history_eq rfl
    · cases he

/-- What the block decoder does with the value it has read keeps the history. -/
theorem State.HistoryIsOut.act {s t : State} (h : s.HistoryIsOut) {p : Phase} {w : Nat} (he : p.act s w = .ok t) :
    t.HistoryIsOut := by
  cases p with
  | idle => cases he; exact h
  | header => exact h.of_history_eq (State.history_blockHeader he)
  | storedPad | storedLen | preHlit | preHdist | preHclen => cases he; exact h.of_history_eq rfl
  | storedNlen len => exact h.of_history_eq (State.history_storedComplement he)
  | storedData left => cases he; exact h.storedByte left w
  | preCll group => exact h.of_history_eq (State.history_setGroup he)
  | codeLength => exact h.of_history_eq (State.history_codeLengthSymbol he)
  | symbol => exact h.literalLengthSymbol he
  | distance run => exact h.distanceSymbol he

theorem State.HistoryIsOut.nextElement {s t : State} (h : s.HistoryIsOut) (he : s.nextElement = .ok t) :
    t.HistoryIsOut := by
  obtain ⟨p, w, ha⟩ := State.act_of_nextElement he
  exact (h.of_history_eq (t := s.withPos p) rfl).act ha

/-- An element keeps the history, or it faults. -/
theorem State.HistoryIsOut.elementStep {s : State} (h : s.HistoryIsOut) :
    s.elementStep.HistoryIsOut ∨ s.elementStep.bdState = .failed := by
  unfold State.elementStep
  cases he : s.nextElement with
  | ok t => exact .inl (h.nextElement he)
  | error k => exact .inr rfl

/-- A run keeps the history, or it ends in FAILED. -/
theorem State.HistoryIsOut.runElements {s : State} (h : s.HistoryIsOut) (n : Nat) :
    (s.runElements n).HistoryIsOut ∨ (s.runElements n).bdState = .failed := by
  induction n generalizing s with
  | zero => exact .inl h
  | succ n ih =>
    unfold State.runElements State.elementStep
    split
    · exact .inl h
    · cases he : s.nextElement with
      | ok t => exact ih (h.nextElement he)
      | error k =>
        right
        dsimp only
        rw [State.runElements_of_idle rfl]
        rfl

/-- A run begins with OUT and the window empty (R261). -/
theorem State.HistoryIsOut.perCallInit (s : State) : s.perCallInit.HistoryIsOut :=
  ⟨rfl, rfl, fun d h1 hd => by change d ≤ 0 at hd; omega⟩

theorem exec_bdRun_of_not_failed {s : State} (hf : s.bdState ≠ .failed) :
    exec .bdRun s = .next (s.perCallInit.runElements s.runFuel) := unlessFailed_of_not_failed hf _

end Sys2Proof.Machine

open Sys2Proof Sys2Proof.Machine

/-- Settles O43: the run ends with the stream or by fault entry, and its response and flags are those of that end. -/
theorem bdRunEndsInDoneOrFailed : Obligations.BdRunEndsInDoneOrFailed := by
  intro s hf he
  obtain ⟨u, t, hx, ho, ⟨hfin, rfl⟩ | ⟨k, rfl⟩⟩ := exec_bdRun_ends hf
  · have hle : u.endRun.pos ≤ 8 * u.endRun.inLen := by
      have hb : u.pos ≤ 8 * s.inp.length := ho.bound (Nat.zero_le _)
      have hin : u.inp = s.inp := ho.inp
      rw [State.endRun_pos, State.inLen, State.endRun_inp, hin]
      omega
    exact ⟨_, hx, rfl, ho.inp, .inl ⟨rfl, ho.err.trans he, rfl, rfl, hfin, Nat.mul_mod_left _ 8, hle⟩⟩
  · have hk : (u.takeFault k).err = some k := by
      rw [State.takeFault_err, show u.err = none from ho.err.trans he]
      rfl
    exact ⟨_, hx, rfl, ho.inp, .inr ⟨rfl, rfl, k, hk, rfl⟩⟩

/-- Settles O47: the step is an element of the block decoder (O52), and an element emits to OUT and the window alike. -/
theorem theWindowHoldsTheTailOfOut : Obligations.TheWindowHoldsTheTailOfOut := by
  refine ⟨fun s t hi hp hh hs hnf => ?_, fun s t _ hf hx hdone => ?_⟩
  · rw [hi.step_eq_elementStep hp] at hs
    cases hs
    exact hh.elementStep.resolve_right hnf
  · rw [exec_bdRun_of_not_failed hf] at hx
    cases hx
    refine ((State.HistoryIsOut.perCallInit s).runElements _).resolve_right fun hfail => ?_
    cases hdone.symm.trans hfail

end

section
/-! PROOFS. A final stored block, element by element (spec/43_block_decoder.md R151, R153; DOC00 section 8): header,
padding, LEN, NLEN and the data bytes, with the values that the bytes of IN give each of them. -/

namespace Sys2Proof.Machine

/-! ### Fields within bytes -/

/-- A field that lies within one byte (R13, R43). -/
theorem bitsAt_within_byte (inp : List Byte) (k : Nat) {j n : Nat} (h : j + n ≤ 8) :
    bitsAt inp (8 * k + j) n = (inp.getD k 0).toNat / 2 ^ j % 2 ^ n := by
  induction n generalizing j with
  | zero => rw [bitsAt_zero, Nat.pow_zero, Nat.mod_one]
  | succ n ih =>
    have hbit : bitAt inp (8 * k + j) = (inp.getD k 0).toNat / 2 ^ j % 2 := by
      rw [bitAt, show (8 * k + j) / 8 = k by omega, show (8 * k + j) % 8 = j by omega]
    rw [bitsAt_succ, hbit, Nat.add_assoc, ih (by omega), Nat.pow_succ' (n := n), Nat.mod_mul, Nat.pow_succ,
      Nat.div_div_eq_div_mul]

theorem bitsAt_byte (inp : List Byte) (k : Nat) : bitsAt inp (8 * k) 8 = (inp.getD k 0).toNat := by
  have h := bitsAt_within_byte inp k (j := 0) (n := 8) (by decide)
  rw [Nat.pow_zero, Nat.div_one, Nat.mod_eq_of_lt (inp.getD k 0).isLt] at h
  exact h

/-- A field of two bytes, low byte first (R45). -/
theorem bitsAt_two_bytes (inp : List Byte) (k : Nat) :
    bitsAt inp (8 * k) 16 = (inp.getD k 0).toNat + 256 * (inp.getD (k + 1) 0).toNat := by
  rw [bitsAt_add inp (8 * k) 8 8, bitsAt_byte, show 8 * k + 8 = 8 * (k + 1) by omega, bitsAt_byte]
  rfl

/-! ### The elements of a stored block -/

theorem State.runElements_of_nextElement {s t : State} {n : Nat} (hp : s.phase ≠ .idle) (h : s.nextElement = .ok t) :
    s.runElements (n + 1) = t.runElements n := by
  rw [State.runElements, if_neg hp, State.elementStep, h]

/-- A field that is there is read, and the block decoder acts on it. -/
theorem State.nextElement_of_field {s : State} {f : Format} {n : Nat} (hf : fieldOfPhase s.phase = some (f, n))
    (h : s.pos + n ≤ 8 * s.inLen) :
    s.nextElement = s.phase.act (s.withPos (s.pos + n)) (bitsAt s.inp s.pos n) := by
  rw [State.nextElement_field hf, State.readUint_ok (fieldOfPhase_width_le hf) h]
  rfl

theorem State.endBlock_of_final {s : State} (h : s.final = true) : s.endBlock = s.endRun := if_pos h

/-- A data byte of a stored block: it is emitted, and after the last one the block is complete (R153). -/
theorem State.nextElement_storedData {s : State} {left k : Nat} {b : Byte} (hp : s.phase = .storedData left)
    (hpos : s.pos = 8 * k) (hb : s.inp[k]? = some b) :
    s.nextElement = .ok (if left ≤ 1 then ((s.withPos (8 * (k + 1))).emit b).endBlock
      else ((s.withPos (8 * (k + 1))).emit b).goto (.storedData (left - 1))) := by
  have hk : k < s.inp.length := (List.getElem?_eq_some_iff.mp hb).1
  rw [State.nextElement_of_field (f := .storedData) (n := 8) (by rw [hp]; rfl)
    (by rw [hpos, State.inLen]; omega), hp, hpos, bitsAt_byte, List.getD_eq_getElem?_getD, hb]
  show Except.ok (State.storedByte _ left b.toNat) = _
  rw [State.storedByte, BitVec.ofNat_toNat]
  rfl

/-- The data bytes of a final stored block: each goes to OUT, and behind the last one the run ends. -/
theorem State.runElements_storedData {data : List Byte} (hne : data ≠ []) {s : State} {n k : Nat}
    (hp : s.phase = .storedData data.length) (hpos : s.pos = 8 * k) (hfin : s.final = true)
    (hin : data <+: s.inp.drop k) (hn : data.length ≤ n) :
    ∃ u : State, s.runElements n = u.endRun ∧ u = { s with
      pos := 8 * (k + data.length), out := s.out ++ data
      win := u.win, cur := u.cur, cnt := u.cnt, phase := u.phase } := by
  induction data generalizing s n k with
  | nil => exact absurd rfl hne
  | cons b rest ih =>
    obtain ⟨tail, htail⟩ := hin
    have hb : s.inp[k]? = some b := by
      rw [← List.head?_drop, ← htail]
      rfl
    obtain ⟨n, rfl⟩ : ∃ m, n = m + 1 := ⟨n - 1, by rw [List.length_cons] at hn; omega⟩
    rw [State.runElements_of_nextElement (by rw [hp]; exact Phase.noConfusion)
      (State.nextElement_storedData hp hpos hb)]
    by_cases hrest : rest = []
    · subst hrest
      refine ⟨(s.withPos (8 * (k + 1))).emit b, ?_, rfl⟩
      rw [if_pos (by simp), State.endBlock_of_final (by exact hfin), State.runElements_of_idle rfl]
    · have hlen : 1 ≤ rest.length := List.length_pos_iff.mpr hrest
      have hdrop : rest <+: s.inp.drop (k + 1) :=
        ⟨tail, by rw [← List.drop_drop, ← htail]; rfl⟩
      rw [if_neg (by rw [List.length_cons]; omega)]
      obtain ⟨u, hu, hframe⟩ := ih hrest
        (s := ((s.withPos (8 * (k + 1))).emit b).goto (.storedData rest.length)) (n := n) (k := k + 1)
        rfl rfl hfin hdrop (by rw [List.length_cons] at hn; omega)
      refine ⟨u, hu, hframe.trans ?_⟩
      have hout : s.out ++ [b] ++ rest = s.out ++ b :: rest := List.append_cons _ _ _ |>.symm
      have hend : k + 1 + rest.length = k + (b :: rest).length := by rw [List.length_cons]; omega
      rw [← hout, ← hend]
      rfl

theorem xor_0xFFFF {len : Nat} (h : len < 65536) : len ^^^ 0xFFFF = 65535 - len := by
  have hx := congrArg BitVec.toNat (BitVec.xor_allOnes (x := BitVec.ofNat 16 len))
  simp only [BitVec.toNat_xor, BitVec.toNat_not, BitVec.toNat_ofNat, BitVec.toNat_allOnes,
    Nat.mod_eq_of_lt (show len < 2 ^ 16 from h)] at hx
  exact hx

/-- `s` inside a final stored block, at POS and place. -/
def State.inStored (s : State) (pos : Nat) (p : Phase) : State :=
  { s with pos := pos, final := true, type := 0, bdState := .storedBlock, phase := p }

/-- The header of a final stored block: FINAL 1, TYPE 0. -/
theorem State.nextElement_storedHeader {s : State} (hp : s.phase = .header) (hpos : s.pos = 0) (h : 3 ≤ 8 * s.inLen)
    (hheader : bitsAt s.inp 0 3 = 1) : s.nextElement = .ok (s.inStored 3 .storedPad) := by
  rw [State.nextElement_of_field (f := .hdr) (n := 3) (by rw [hp]; rfl) (by omega), hp, hpos, Nat.zero_add, hheader]
  rfl

theorem State.nextElement_storedPad (s : State) :
    (s.inStored 3 .storedPad).nextElement = .ok (s.inStored 8 .storedLen) := by
  show Except.ok (s.inStored ((3 + 7) / 8 * 8) .storedLen) = _
  norm_num

theorem State.nextElement_storedLen {s : State} {len : Nat} (h : 24 ≤ 8 * s.inLen) (hLEN : bitsAt s.inp 8 16 = len) :
    (s.inStored 8 .storedLen).nextElement = .ok (s.inStored 24 (.storedNlen len)) := by
  refine (State.nextElement_of_field (f := .storedLen) (n := 16) rfl h).trans ?_
  exact congrArg (fun w => Except.ok (s.inStored 24 (.storedNlen w))) hLEN

/-- LEN = 0 completes the block behind NLEN; else its data comes next. -/
theorem State.nextElement_storedNlen {s : State} {len : Nat} (hlen : len < 65536) (h : 40 ≤ 8 * s.inLen)
    (hNLEN : bitsAt s.inp 24 16 = 65535 - len) :
    (s.inStored 24 (.storedNlen len)).nextElement =
      .ok (if len = 0 then (s.inStored 40 (.storedNlen len)).endRun else s.inStored 40 (.storedData len)) := by
  refine (State.nextElement_of_field (f := .storedNlen) (n := 16) rfl h).trans ?_
  show State.storedComplement _ len (bitsAt s.inp 24 16) = _
  rw [hNLEN, State.storedComplement, if_pos (xor_0xFFFF hlen), State.endBlock_of_final rfl]
  rfl

/-- What the first five bytes of a final stored block say: its header, LEN and NLEN (R65, R66). -/
theorem bitsAt_storedBlock {inp : List Byte} {pad : Nat} {data rest : List Byte} (hlen : data.length < 65536)
    (hin : inp = [BitVec.ofNat 8 (1 + 8 * pad), BitVec.ofNat 8 data.length, BitVec.ofNat 8 (data.length / 256),
      BitVec.ofNat 8 (65535 - data.length), BitVec.ofNat 8 ((65535 - data.length) / 256)] ++ data ++ rest) :
    bitsAt inp 0 3 = 1 ∧ bitsAt inp 8 16 = data.length ∧ bitsAt inp 24 16 = 65535 - data.length := by
  subst hin
  refine ⟨?_, ?_, ?_⟩
  · refine (bitsAt_within_byte _ 0 (j := 0) (n := 3) (by decide)).trans ?_
    simp
  · refine (bitsAt_two_bytes _ 1).trans ?_
    simp
    omega
  · refine (bitsAt_two_bytes _ 3).trans ?_
    simp
    omega

/-- A final stored block at the start of IN, whatever its padding bits and whatever follows it. -/
theorem State.runElements_storedBlock {s : State} {pad n : Nat} {data rest : List Byte} (hp : s.phase = .header)
    (hpos : s.pos = 0) (hlen : data.length < 65536)
    (hin : s.inp = [BitVec.ofNat 8 (1 + 8 * pad), BitVec.ofNat 8 data.length, BitVec.ofNat 8 (data.length / 256),
      BitVec.ofNat 8 (65535 - data.length), BitVec.ofNat 8 ((65535 - data.length) / 256)] ++ data ++ rest)
    (hn : data.length + 4 ≤ n) :
    ∃ u : State, s.runElements n = u.endRun ∧ u = { s with
      pos := 8 * (5 + data.length), final := true, type := 0, bdState := .storedBlock
      out := s.out ++ data, win := u.win, cur := u.cur, cnt := u.cnt, phase := u.phase } := by
  have hbytes : 5 + data.length ≤ s.inLen := by
    rw [State.inLen, hin]
    simp only [List.length_append, List.length_cons, List.length_nil]
    omega
  obtain ⟨hheader, hLEN, hNLEN⟩ := bitsAt_storedBlock hlen hin
  obtain ⟨n, rfl⟩ : ∃ m, n = m + 1 + 1 + 1 + 1 := ⟨n - 4, by omega⟩
  rw [State.runElements_of_nextElement (by rw [hp]; exact Phase.noConfusion)
      (State.nextElement_storedHeader hp hpos (by omega) hheader),
    State.runElements_of_nextElement Phase.noConfusion s.nextElement_storedPad,
    State.runElements_of_nextElement Phase.noConfusion (State.nextElement_storedLen (by omega) hLEN),
    State.runElements_of_nextElement Phase.noConfusion (State.nextElement_storedNlen hlen (by omega) hNLEN)]
  by_cases hne : data = []
  · subst hne
    refine ⟨s.inStored 40 (.storedNlen 0), State.runElements_of_idle rfl n, ?_⟩
    rw [List.append_nil]
    rfl
  · rw [if_neg (by rwa [List.length_eq_zero_iff])]
    refine State.runElements_storedData (s := s.inStored 40 (.storedData data.length)) (k := 5) hne rfl rfl rfl ?_
      (by omega)
    exact ⟨rest, by show _ = s.inp.drop 5; rw [hin]; rfl⟩

end Sys2Proof.Machine

open Sys2Proof Sys2Proof.Machine

/-- Settles O16: at its place the padding aligns POS. -/
theorem storedPaddingAligns : Obligations.StoredPaddingAligns := by
  intro s hp hle
  refine ⟨(s.pos + 7) / 8 * 8, (exec_storedPad hp).trans rfl, ?_⟩
  omega

/-- Settles O17: the complement of LEN is `65535 - LEN`, and the rest is NLEN's case split. -/
theorem storedLengthMustMatchItsComplement : Obligations.StoredLengthMustMatchItsComplement := by
  refine ⟨fun s len hp => ?_, fun s len nlen hp hlen _ => ?_⟩
  · rw [exec_of_field (i := .storedLen len) rfl (by rw [hp]; rfl), hp]
    rfl
  · rw [exec_of_field (i := .storedNlen nlen) rfl (by rw [hp]; rfl), hp, Phase.act, State.storedComplement,
      xor_0xFFFF hlen]
    refine ⟨fun hne => ?_, fun heq hpos => ?_, fun heq hzero => ?_⟩
    · rw [if_neg (Ne.symm hne)]
      rfl
    · rw [if_pos heq.symm, if_neg (Nat.ne_of_gt hpos)]
      rfl
    · rw [if_pos heq.symm, if_pos hzero]
      rfl

/-- Settles O18: the byte is emitted, and `left` decides whether the block is complete. -/
theorem storedBytesGoToOutAndWindow : Obligations.StoredBytesGoToOutAndWindow := by
  intro s left b hp _
  have hx : exec (.storedData b) s = .next (s.storedByte left b) := by
    rw [exec_of_field (i := .storedData b) rfl (by rw [hp]; rfl), hp]
    rfl
  refine ⟨s.emit (BitVec.ofNat 8 b), rfl, (s.emit_windowByte _ _).trans (if_pos rfl),
    fun a ha => (s.emit_windowByte _ a).trans (if_neg ha), fun hleft => ?_, fun hleft => ?_⟩
  · rw [hx, State.storedByte, if_neg (by omega)]
    rfl
  · rw [hx, State.storedByte, if_pos (by omega)]

/-- Settles O45: the run of the block's elements; CUR and CNT follow from the length of OUT, which is the window's
history (O47). -/
theorem bdRunDecodesAStoredStream : Obligations.BdRunDecodesAStoredStream := by
  rintro s pad len data rest hf he _ rfl hlen hin
  have hfuel : data.length + 4 ≤ s.runFuel := by
    rw [State.runFuel, State.inLen, hin]
    simp only [List.length_append, List.length_cons, List.length_nil]
    omega
  obtain ⟨u, hrun, hu⟩ := State.runElements_storedBlock (s := s.perCallInit) rfl rfl hlen hin hfuel
  have hout : u.out = data := congrArg State.out hu
  have hhist : u.endRun.HistoryIsOut := by
    have := (State.HistoryIsOut.perCallInit s).runElements s.runFuel
    rw [hrun] at this
    exact this.resolve_right BdState.noConfusion
  refine ⟨u.endRun, (exec_bdRun_of_not_failed hf).trans (congrArg _ hrun), rfl, (congrArg State.err hu).trans he, hout,
    by rw [State.endRun_resp, hout], congrArg some hout, ?pos, congrArg State.final hu, congrArg State.type hu,
    congrArg State.distPresent hu, ?cur, ?cnt⟩
  case pos =>
    rw [State.endRun_pos, show u.pos = 8 * (5 + data.length) from congrArg State.pos hu]
    omega
  case cur => rw [hhist.cur_eq, State.endRun_out, hout]
  case cnt => rw [hhist.cnt_eq, State.endRun_out, hout]

end

section
/-! PROOFS. The other statements about the block decoder (spec/43_block_decoder.md): headers and the ends of blocks
(O15, O19), literals, the end-of-block symbol and the faults of a back-reference (O20, O21, O23, O25, O26), and the
worked streams (O49). -/

namespace Sys2Proof.Machine

/-! ### Operands with extra bits -/

theorem State.addExtra_end {s : State} {e : Nat} (b : Nat) (he : e ≤ 31) (h : 8 * s.inLen < s.pos + e) :
    s.addExtra b e = .error .unexpectedEndOfStream := by
  rw [State.addExtra, State.readUint_end he h]

/-- An operand that has been read: the extra bits were there. -/
theorem State.end_le_of_addExtra {s t : State} {b e v : Nat} (h : s.addExtra b e = .ok (v, t)) :
    s.pos + e ≤ 8 * s.inLen := by
  unfold State.addExtra at h
  split at h
  · next hr => exact (State.eq_of_readUint_eq_ok hr).1
  · cases h

theorem extraBits_lt (s : State) (e : Nat) : ∑ k ∈ Finset.range e, bitAt s.inp (s.pos + k) * 2 ^ k < 2 ^ e := by
  rw [← bitsAt_eq_sum]
  exact bitsAt_lt s.inp s.pos e

/-- R160 for the distance symbols with extra bits: the distance is in 1..32768, whatever the extra bits are. -/
theorem distance_extra_range {sym e v : Nat} (h1 : 4 ≤ sym) (h2 : sym ≤ 29) (he : e = sym / 2 - 1) (hv : v < 2 ^ e) :
    (sym % 2 + 2) * 2 ^ e + 1 + v ≤ 32768 := by
  have hpow : 2 ^ e ≤ 2 ^ 13 := Nat.pow_le_pow_right (by decide) (by omega)
  have hbase : (sym % 2 + 2) * 2 ^ e ≤ 3 * 2 ^ e := Nat.mul_le_mul_right _ (by omega)
  omega

/-- R160: every run length lies in 3..258, as the symbol gives it or with its extra bits. -/
theorem State.runLength_range {s t : State} {sym run : Nat} (hs : 257 ≤ sym) (h : s.runLength sym = .ok (run, t)) :
    3 ≤ run ∧ run ≤ 258 := by
  by_cases h264 : sym ≤ 264
  · rw [s.runLength_short h264] at h
    have hrun := (Prod.mk.inj (Except.ok.inj h)).1
    omega
  by_cases h284 : sym ≤ 284
  · have hend : s.pos + (sym - 261) / 4 ≤ 8 * s.inLen := by
      rw [State.runLength, if_neg h264, if_pos h284] at h
      exact State.end_le_of_addExtra h
    rw [State.runLength_extra (by omega) h284 rfl hend] at h
    cases h
    exact runLength_extra_range (by omega) h284 rfl (extraBits_lt s _)
  · rw [State.runLength, if_neg h264, if_neg h284] at h
    split at h <;> cases h
    decide

/-- R160: every distance lies in 1..32768. -/
theorem State.distanceOf_range {s t : State} {sym d : Nat} (h : s.distanceOf sym = .ok (d, t)) : 1 ≤ d ∧ d ≤ 32768 := by
  by_cases h3 : sym ≤ 3
  · rw [s.distanceOf_short h3] at h
    cases h
    omega
  by_cases h29 : sym ≤ 29
  · have hend : s.pos + (sym / 2 - 1) ≤ 8 * s.inLen := by
      rw [State.distanceOf, if_neg h3, if_pos h29] at h
      exact State.end_le_of_addExtra h
    rw [State.distanceOf_extra (by omega) h29 rfl hend] at h
    cases h
    exact ⟨by omega, distance_extra_range (by omega) h29 rfl (extraBits_lt s _)⟩
  · rw [State.distanceOf, if_neg h3, if_neg h29] at h
    cases h

/-! ### Rows of a back-reference -/

/-- The row of a length symbol whose run length cannot be had faults as RunLength does (R158). -/
theorem exec_length_of_runLength_error {i : Instr} {s : State} {sym : Nat} {k : FaultKind}
    (hi : standsForLiteralLength i s sym) (hp : s.phase = .symbol) (h1 : 257 ≤ sym) (h2 : sym ≤ 287)
    (h : s.runLength sym = .error k) : exec i s = .next (s.takeFault k) := by
  rw [exec_of_standsForLiteralLength hi, literalLengthElement_length hp h1 h2, State.lengthSymbol, h]
  rfl

/-- The row of a length symbol in a block without a distance code, its run length read (R158, R232). -/
theorem exec_length_without_distance {i : Instr} {s t : State} {sym run : Nat} (hi : standsForLiteralLength i s sym)
    (hp : s.phase = .symbol) (h1 : 257 ≤ sym) (h2 : sym ≤ 287) (h : s.runLength sym = .ok (run, t))
    (hd : s.distPresent = false) : exec i s = .next (s.takeFault .emptyDistanceCode) := by
  obtain ⟨p, rfl, _⟩ := State.runLength_ok h
  have hrange := State.runLength_range h1 h
  rw [exec_of_standsForLiteralLength hi, literalLengthElement_length hp h1 h2, State.lengthSymbol, h]
  dsimp only
  rw [if_neg (by omega), if_neg (by rw [State.withPos_distPresent, hd]; decide)]
  rfl

/-- The row of a distance symbol whose distance cannot be had faults as Distance does (R158). -/
theorem exec_distance_of_distanceOf_error {i : Instr} {s : State} {sym run : Nat} {k : FaultKind}
    (hi : standsForDistance i s sym) (hp : s.phase = .distance run) (h : s.distanceOf sym = .error k) :
    exec i s = .next (s.takeFault k) := by
  rw [exec_of_distance hi hp, State.distanceSymbol, h]
  rfl

/-- The row of a distance symbol whose distance is of more bytes than the window holds (R158, R230). -/
theorem exec_distance_beyond_window {i : Instr} {s t : State} {sym run d : Nat} (hi : standsForDistance i s sym)
    (hp : s.phase = .distance run) (h : s.distanceOf sym = .ok (d, t)) (hd : s.cnt < d) :
    exec i s = .next (s.takeFault .invalidDistance) := by
  obtain ⟨p, rfl, _⟩ := State.distanceOf_ok h
  have hrange := State.distanceOf_range h
  have hcopy : (s.withPos p).copyBack d run = .error .invalidDistance :=
    State.copyBack_of_bad_distance _ (.inr (Int.ofNat_lt.mpr hd))
  rw [exec_of_distance hi hp, State.distanceSymbol, h]
  dsimp only
  rw [if_neg (by omega), hcopy]
  rfl

end Sys2Proof.Machine

open Sys2Proof Sys2Proof.Machine

/-- Settles O26: by the ranges of the two functions. -/
theorem runLengthsAndDistancesStayInRange : Obligations.RunLengthsAndDistancesStayInRange :=
  ⟨fun _ _ _ _ => State.runLength_range, fun _ _ _ _ => State.distanceOf_range⟩

/-- Settles O15: each header's row hands its type to the dispatch. -/
theorem headersSelectTheBlock : Obligations.HeadersSelectTheBlock := by
  intro s f hp
  have row : ∀ ty, inPlace (s.phase == .header) s (s.blockHeader f ty) = finish s (s.blockHeader f ty) := fun ty => by
    rw [beq_iff_eq.mpr hp, inPlace_true]
  exact ⟨row 0, row 1, row 2, row 3⟩

/-- Settles O19: with FINAL = 0 the next header; else the end of the run, whose fields are known. -/
theorem blocksEndInTheNextHeaderOrInDone : Obligations.BlocksEndInTheNextHeaderOrInDone := by
  intro s
  refine ⟨fun hfin => ?_, fun hfin hle => ?_⟩
  · rw [State.endBlock, if_neg (by rw [hfin]; decide)]
    rfl
  · refine ⟨s.endRun, State.endBlock_of_final hfin, rfl, rfl, rfl, rfl, rfl, Nat.mul_mod_left _ 8, ?_, ?_, ?_, rfl, rfl,
      rfl, rfl, rfl, rfl, rfl, rfl, rfl, rfl, rfl⟩
    all_goals rw [State.endRun_pos]; omega

/-- Settles O20: the byte is emitted, and the next symbol is read at the same place. -/
theorem literalsGoToOutAndWindow : Obligations.LiteralsGoToOutAndWindow := by
  intro i s b hi hb hp
  have hsym : s.literalLengthSymbol b = .ok ((s.emit (BitVec.ofNat 8 b)).goto .symbol) := by
    rw [State.literalLengthSymbol, if_neg (by omega), if_pos hb]
  refine ⟨(s.emit (BitVec.ofNat 8 b)).goto .symbol, ?_, ?_, ?_, fun a ha => ?_⟩
  · rw [exec_of_literalLength hi hp, hsym]
    rfl
  · rw [← hp]
    rfl
  · exact (s.emit_windowByte _ _).trans (if_pos rfl)
  · exact (s.emit_windowByte _ a).trans (if_neg ha)

/-- Settles O21: the first test of a literal/length symbol. -/
theorem endOfBlockSymbolEndsTheBlock : Obligations.EndOfBlockSymbolEndsTheBlock := by
  intro i s hi hp
  rw [exec_of_literalLength hi hp, State.literalLengthSymbol, if_pos rfl]
  rfl

/-- Settles O23: RunLength's own faults come first; with a run length read, the distance code is missing. -/
theorem lengthSymbolFaultsComeInOrder : Obligations.LengthSymbolFaultsComeInOrder := by
  intro i s sym hi hp
  refine ⟨fun hsym => ?reserved, fun h1 h2 hend => ?cutOff, fun h1 h2 hend hd => ?noDistance⟩
  case reserved =>
    refine exec_length_of_runLength_error hi hp (by omega) (by omega) ?_
    rw [State.runLength, if_neg (by omega), if_neg (by omega), if_neg (by omega)]
  case cutOff =>
    refine exec_length_of_runLength_error hi hp (by omega) (by omega) ?_
    rw [State.runLength, if_neg (by omega), if_pos h2]
    exact State.addExtra_end _ (by rw [lengthExtraBits]; omega) hend
  case noDistance =>
    by_cases h264 : sym ≤ 264
    · exact exec_length_without_distance hi hp h1 (by omega) (s.runLength_short h264) hd
    by_cases h284 : sym ≤ 284
    · have hrun := State.runLength_extra (by omega) h284 rfl (hend (by omega) h284)
      exact exec_length_without_distance hi hp h1 (by omega) hrun hd
    · obtain rfl : sym = 285 := by omega
      exact exec_length_without_distance hi hp h1 (by decide) s.runLength_longest hd

/-- Settles O25: Distance's own faults come first; with a distance read, it is more than the window holds. -/
theorem distanceSymbolFaultsComeInOrder : Obligations.DistanceSymbolFaultsComeInOrder := by
  intro i s run sym hi hp
  refine ⟨fun hsym => ?reserved, fun h1 h2 hend => ?cutOff, fun h3 hcnt => ?short, fun e h1 h2 he hend hcnt => ?extra⟩
  case reserved =>
    refine exec_distance_of_distanceOf_error hi hp ?_
    rw [State.distanceOf, if_neg (by omega), if_neg (by omega)]
  case cutOff =>
    refine exec_distance_of_distanceOf_error hi hp ?_
    rw [State.distanceOf, if_neg (by omega), if_pos h2]
    exact State.addExtra_end _ (by rw [distanceExtraBits]; omega) hend
  case short => exact exec_distance_beyond_window hi hp (s.distanceOf_short h3) hcnt
  case extra => exact exec_distance_beyond_window hi hp (State.distanceOf_extra h1 h2 he hend) hcnt

/-- Settles O49: each stream run by the kernel. -/
theorem bdRunDecodesTheWorkedStreams : Obligations.BdRunDecodesTheWorkedStreams := by
  refine ⟨⟨_, exec_bdRun_of_not_failed ?_, ?_⟩, ⟨_, exec_bdRun_of_not_failed ?_, ?_⟩,
    ⟨_, exec_bdRun_of_not_failed ?_, ?_⟩, ⟨_, exec_bdRun_of_not_failed ?_, ?_⟩⟩
  all_goals decide +kernel

end

section
/-! PROOFS. The preamble of a dynamic block (spec/44_dynamic_tables.md R190 to R195): the counts, the groups of the
code-length code, the code-length symbols with their faults, and the tables a complete list of lengths gives. -/

namespace Sys2Proof.Machine

/-! ### The groups of the code-length code (R191, R192) -/

theorem State.setGroup_of_lt {s : State} {group : Nat} (v : Nat) (h : group + 1 < s.nclen) :
    s.setGroup group v =
      .ok { s with cll := s.cll.set (slotOfGroup group) v, phase := .preCll (group + 1) } := if_pos h

theorem State.setGroup_last {s : State} {group : Nat} (v : Nat) (h : s.nclen ≤ group + 1) :
    s.setGroup group v = { s with cll := s.cll.set (slotOfGroup group) v }.buildCodeLengthCode :=
  if_neg (Nat.not_lt.mpr h)

theorem State.buildCodeLengthCode_ok {s : State} {t : Table} (h : build s.cll = .ok t) :
    s.buildCodeLengthCode = .ok { s with tblClc := some t, lenCnt := 0, phase := .codeLength } := by
  rw [State.buildCodeLengthCode, h]

theorem State.buildCodeLengthCode_error {s : State} {k : FaultKind} (h : build s.cll = .error k) :
    s.buildCodeLengthCode = .error k := by
  rw [State.buildCodeLengthCode, h]

/-! ### A run written into a list -/

/-- `l` with its `n` entries from `a` on replaced by `v`. -/
def overwrite (l : List Nat) (a n v : Nat) : List Nat := l.take a ++ List.replicate n v ++ l.drop (a + n)

theorem length_overwrite {l : List Nat} {a n : Nat} (v : Nat) (h : a + n ≤ l.length) :
    (overwrite l a n v).length = l.length := by
  simp only [overwrite, List.length_append, List.length_take, List.length_replicate, List.length_drop]
  omega

theorem getElem?_overwrite_inside {l : List Nat} {a n j : Nat} (v : Nat) (h : a + n ≤ l.length) (h1 : a ≤ j)
    (h2 : j < a + n) : (overwrite l a n v)[j]? = some v := by
  have ha : (l.take a).length = a := by rw [List.length_take]; omega
  rw [overwrite, List.append_assoc, List.getElem?_append_right (by omega), ha,
    List.getElem?_append_left (by rw [List.length_replicate]; omega), List.getElem?_replicate, if_pos (by omega)]

theorem getElem?_overwrite_outside {l : List Nat} {a n j : Nat} (v : Nat) (h : a + n ≤ l.length)
    (hj : j < a ∨ a + n ≤ j) : (overwrite l a n v)[j]? = l[j]? := by
  have ha : (l.take a).length = a := by rw [List.length_take]; omega
  have hrun : (l.take a ++ List.replicate n v).length = a + n := by rw [List.length_append, ha, List.length_replicate]
  rcases hj with hj | hj
  · rw [overwrite, List.append_assoc, List.getElem?_append_left (by omega), List.getElem?_take_of_lt hj]
  · rw [overwrite, List.getElem?_append_right (by omega), hrun, List.getElem?_drop, Nat.add_sub_cancel' hj]

/-! ### Repeats (R193) -/

/-- The repeats of the code-length alphabet, where one can be read: a symbol, the number of its extra bits and its least
count (R73). -/
def State.RepeatHere (s : State) (sym e least : Nat) : Prop :=
  (sym = 16 ∧ 0 < s.lenCnt ∧ e = 2 ∧ least = 3) ∨ (sym = 17 ∧ e = 3 ∧ least = 3) ∨ (sym = 18 ∧ e = 7 ∧ least = 11)

/-- The length that a repeat repeats: the previous one for symbol 16, else 0. -/
def State.repeatedLength (s : State) (sym : Nat) : Nat := if sym = 16 then s.lenBuf.getD (s.lenCnt - 1) 0 else 0

/-- The count of a repeat that reads `e` extra bits at POS. -/
def State.repeatCount (s : State) (e least : Nat) : Nat :=
  least + ∑ k ∈ Finset.range e, bitAt s.inp (s.pos + k) * 2 ^ k

section Repeats

variable {s : State} {sym e least : Nat} (h : s.RepeatHere sym e least)
include h

theorem State.RepeatHere.sixteen_le : 16 ≤ sym := by
  obtain ⟨rfl, -⟩ | ⟨rfl, -⟩ | ⟨rfl, -⟩ := h <;> decide

theorem State.RepeatHere.extraBits_le : e ≤ 31 := by
  obtain ⟨-, -, rfl, -⟩ | ⟨-, rfl, -⟩ | ⟨-, rfl, -⟩ := h <;> decide

/-- Where it can be read, a repeat is its count, base and extra bits, and the length it repeats. -/
theorem State.RepeatHere.repeatOf_eq :
    s.repeatOf sym = (s.addExtra least e).map fun r => (r.1, s.repeatedLength sym, r.2) := by
  obtain ⟨rfl, hcnt, rfl, rfl⟩ | ⟨rfl, rfl, rfl⟩ | ⟨rfl, rfl, rfl⟩ := h
  · rw [State.repeatOf, if_pos rfl, if_neg hcnt.ne']
    cases s.addExtra 3 2 <;> rfl
  · rw [State.repeatOf, if_neg (by decide), if_pos rfl]
    cases s.addExtra 3 3 <;> rfl
  · rw [State.repeatOf, if_neg (by decide), if_neg (by decide), if_pos rfl]
    cases s.addExtra 11 7 <;> rfl

theorem State.RepeatHere.repeatOf_ok (hend : s.pos + e ≤ 8 * s.inLen) :
    s.repeatOf sym = .ok (s.repeatCount e least, s.repeatedLength sym, s.withPos (s.pos + e)) := by
  rw [h.repeatOf_eq, State.addExtra_ok least h.extraBits_le hend]
  rfl

theorem State.RepeatHere.repeatOf_end (hend : 8 * s.inLen < s.pos + e) :
    s.repeatOf sym = .error .unexpectedEndOfStream := by
  rw [h.repeatOf_eq, State.addExtra_end least h.extraBits_le hend]
  rfl

/-- A repeat that has been read: the overrun is tested, then the run is stored. -/
theorem State.RepeatHere.codeLengthSymbol_eq (hend : s.pos + e ≤ 8 * s.inLen) :
    s.codeLengthSymbol sym =
      if s.nlit + s.ndist < s.lenCnt + s.repeatCount e least then .error .codeLengthOverrun
      else ((s.withPos (s.pos + e)).pushLengths (s.repeatCount e least) (s.repeatedLength sym)).afterLengths := by
  have hsym := h.sixteen_le
  rw [State.codeLengthSymbol, if_neg (by omega), h.repeatOf_ok hend]
  rfl

theorem State.RepeatHere.getElem?_lenBuf (hlen : s.lenCnt ≤ s.lenBuf.length) :
    some (s.repeatedLength sym) = if sym = 16 then s.lenBuf[s.lenCnt - 1]? else some 0 := by
  unfold State.repeatedLength
  obtain ⟨rfl, hcnt, -, -⟩ | ⟨rfl, -, -⟩ | ⟨rfl, -, -⟩ := h
  · rw [if_pos rfl, if_pos rfl, List.getD_eq_getElem?_getD, List.getElem?_eq_getElem (by omega)]
    rfl
  · rfl
  · rfl

end Repeats

/-- A repeat and the length it repeats, as O31 gives them. -/
theorem State.repeatHere_of_value {s : State} {sym e least val : Nat}
    (h : (sym = 16 ∧ 0 < s.lenCnt ∧ e = 2 ∧ least = 3 ∧ s.lenBuf[s.lenCnt - 1]? = some val) ∨
      (sym = 17 ∧ e = 3 ∧ least = 3 ∧ val = 0) ∨ (sym = 18 ∧ e = 7 ∧ least = 11 ∧ val = 0)) :
    s.RepeatHere sym e least ∧ val = s.repeatedLength sym := by
  obtain ⟨rfl, hcnt, he, hl, hval⟩ | ⟨rfl, he, hl, hval⟩ | ⟨rfl, he, hl, hval⟩ := h
  · refine ⟨.inl ⟨rfl, hcnt, he, hl⟩, ?_⟩
    rw [State.repeatedLength, if_pos rfl, List.getD_eq_getElem?_getD, hval]
    rfl
  · exact ⟨.inr (.inl ⟨rfl, he, hl⟩), hval⟩
  · exact ⟨.inr (.inr ⟨rfl, he, hl⟩), hval⟩

theorem State.repeatOf_empty {s : State} (h : s.lenCnt = 0) : s.repeatOf 16 = .error .noPreviousLengthToCopy := by
  rw [State.repeatOf, if_pos rfl, if_pos h]

/-- A repeat that cannot be read faults the code-length symbol. -/
theorem State.codeLengthSymbol_of_repeatOf_error {s : State} {sym : Nat} {k : FaultKind} (hsym : 16 ≤ sym)
    (h : s.repeatOf sym = .error k) : s.codeLengthSymbol sym = .error k := by
  rw [State.codeLengthSymbol, if_neg (by omega), h]

/-! ### Lengths appended to the list (R193) -/

/-- The code-length symbol `sym`, with `e` extra bits, appends `rep` times the length `val`. -/
def State.Appends (s : State) (sym e rep val : Nat) : Prop :=
  (sym ≤ 15 ∧ e = 0 ∧ rep = 1 ∧ val = sym) ∨
    ∃ least, s.RepeatHere sym e least ∧ s.pos + e ≤ 8 * s.inLen ∧ rep = s.repeatCount e least ∧
      val = s.repeatedLength sym

/-- `s` behind a code-length symbol with `e` extra bits that has appended `rep` times the length `val`. -/
def State.appended (s : State) (e rep val : Nat) : State :=
  { s with pos := s.pos + e, lenBuf := overwrite s.lenBuf s.lenCnt rep val, lenCnt := s.lenCnt + rep }

/-- Within NLIT + NDIST a code-length symbol stores its lengths, and the preamble goes on. -/
theorem State.Appends.codeLengthSymbol_eq {s : State} {sym e rep val : Nat} (h : s.Appends sym e rep val)
    (htotal : s.lenCnt + rep ≤ s.nlit + s.ndist) (hbuf : s.nlit + s.ndist ≤ s.lenBuf.length) :
    s.codeLengthSymbol sym = (s.appended e rep val).afterLengths := by
  have hpush : (s.withPos (s.pos + e)).pushLengths rep val = s.appended e rep val :=
    State.pushLengths_eq _ rep val (htotal.trans hbuf)
  rw [← hpush]
  obtain ⟨hsym, rfl, rfl, rfl⟩ | ⟨least, hr, hend, rfl, rfl⟩ := h
  · exact if_pos hsym
  · rw [hr.codeLengthSymbol_eq hend, if_neg (Nat.not_lt.mpr htotal)]

theorem State.afterLengths_of_lt {s : State} (h : s.lenCnt < s.nlit + s.ndist) :
    s.afterLengths = .ok (s.goto .codeLength) := if_pos h

theorem State.afterLengths_of_complete {s : State} (h : s.lenCnt = s.nlit + s.ndist) :
    s.afterLengths = s.buildBlockTables := if_neg (Nat.not_lt.mpr h.ge)

theorem State.goto_of_phase {s : State} {p : Phase} (h : s.phase = p) : s.goto p = s := by
  rw [← h]
  rfl

/-! ### The tables of the block (R194, R195) -/

theorem paddedDistanceLengths_eq (d : List Nat) :
    paddedDistanceLengths d =
      if d.count 1 = 1 ∧ ∀ l ∈ d, l ≤ 1 then (d ++ List.replicate (32 - d.length) 0).set 31 1 else d := by
  simp only [paddedDistanceLengths, List.countP_eq_zero, decide_eq_true_eq, Nat.not_lt]

/-- The distance code is absent exactly when its lengths are the single length 0. -/
theorem eq_singleton_zero_iff {d : List Nat} {n : Nat} (h : d.length = n) : n = 1 ∧ d.getD 0 0 = 0 ↔ d = [0] := by
  subst h
  constructor
  · rintro ⟨hlen, hzero⟩
    obtain ⟨a, rfl⟩ := List.length_eq_one_iff.mp hlen
    exact congrArg (fun x => [x]) hzero
  · rintro rfl
    exact ⟨rfl, rfl⟩

section Tables

variable {s : State}

theorem State.buildBlockTables_missing (h : (s.lenSpan 0 s.nlit)[256]? = some 0) :
    s.buildBlockTables = .error .missingEndOfBlockSymbol := by
  rw [State.buildBlockTables, if_pos (by rw [List.getD_eq_getElem?_getD, h]; rfl)]

/-- From its lengths `d` the distance table is built, or it is absent (R195). -/
theorem State.buildDistanceTable_eq {d : List Nat} (hd : s.lenSpan s.nlit s.ndist = d) (hlen : d.length = s.ndist) :
    s.buildDistanceTable =
      if d = [0] then .ok { s with tblDynD := none, distPresent := false, phase := .symbol }
      else (build (paddedDistanceLengths d)).map fun td =>
        { s with tblDynD := some td, distPresent := true, phase := .symbol } := by
  have habsent : (s.ndist = 1 ∧ d.getD 0 0 = 0) = (d = [0]) := propext (eq_singleton_zero_iff hlen)
  simp only [State.buildDistanceTable, hd, habsent]
  cases build (paddedDistanceLengths d) <;> rfl

/-- With a length for symbol 256 the literal/length table is built from its lengths `l`, then the distance table
(R194). -/
theorem State.buildBlockTables_of_symbol256 {l : List Nat} (hl : s.lenSpan 0 s.nlit = l) (hlen : 257 ≤ l.length)
    (h : l[256]? ≠ some 0) :
    s.buildBlockTables = (build l).bind fun tl => { s with tblDynLL := some tl }.buildDistanceTable := by
  have hsym : l.getD 256 0 ≠ 0 := by
    rw [List.getElem?_eq_getElem (by omega)] at h
    rw [List.getD_eq_getElem _ _ (by omega)]
    exact fun h0 => h (congrArg some h0)
  rw [State.buildBlockTables, hl, if_neg hsym]
  cases build l <;> rfl

end Tables

end Sys2Proof.Machine

open Sys2Proof Sys2Proof.Machine

/-- Settles O27: each count is set at its place. -/
theorem preambleCountsAreSet : Obligations.PreambleCountsAreSet := by
  intro s v
  refine ⟨fun hp => ?_, fun hp => ?_, fun hp => ?_⟩
  · rw [exec_of_field (i := .preHlit v) rfl (by rw [hp]; rfl), hp]
    rfl
  · rw [exec_of_field (i := .preHdist v) rfl (by rw [hp]; rfl), hp]
    rfl
  · rw [exec_of_field (i := .preHclen v) rfl (by rw [hp]; rfl), hp]
    rfl

/-- Settles O28: the slot is that of the group, and the last group builds the code. -/
theorem groupsFillTheCodeLengthCode : Obligations.GroupsFillTheCodeLengthCode := by
  intro i s g v slot hi hp hslot
  have hexec : exec i s = finish s (s.setGroup g v) := by
    rw [exec_of_field hi (by rw [hp]; rfl), hp]
    rfl
  have horder : slotOfGroup g = slot := by
    change slotOrder[g]? = some slot at hslot
    rw [slotOfGroup, List.getD_eq_getElem?_getD, hslot]
    rfl
  subst horder
  refine ⟨fun hlt => ?next, fun hlast => ⟨fun t ht => ?built, fun k hk => ?fault⟩⟩
  case next =>
    rw [hexec, State.setGroup_of_lt v hlt]
    rfl
  case built =>
    rw [hexec, State.setGroup_last v hlast, State.buildCodeLengthCode_ok ht]
    rfl
  case fault =>
    rw [hexec, State.setGroup_last v hlast, State.buildCodeLengthCode_error hk]
    rfl

/-- Settles O29: the list, not yet complete, takes one length or a run of them. -/
theorem codeLengthSymbolsExtendTheList : Obligations.CodeLengthSymbolsExtendTheList := by
  intro i s sym hi hp
  refine ⟨fun hsym htotal => ?_, fun e least rep (hr : s.RepeatHere sym e least) hend hrep htotal hbuf => ?_⟩
  · have hpush : s.codeLengthSymbol sym = .ok ((s.pushLength sym).goto .codeLength) :=
      (if_pos hsym).trans (State.afterLengths_of_lt htotal)
    rw [exec_of_codeLength hi hp, hpush, State.goto_of_phase (by exact hp)]
    rfl
  · have happ : s.Appends sym e rep (s.repeatedLength sym) := .inr ⟨least, hr, hend, hrep, rfl⟩
    have hfit : s.lenCnt + rep ≤ s.lenBuf.length := by omega
    refine ⟨s.appended e rep (s.repeatedLength sym), ?_, rfl, length_overwrite _ hfit, fun j h1 h2 => ?_,
      fun j hj => getElem?_overwrite_outside _ hfit hj⟩
    · rw [exec_of_codeLength hi hp, happ.codeLengthSymbol_eq htotal.le hbuf, State.afterLengths_of_lt htotal,
        State.goto_of_phase (by exact hp)]
      rfl
    · exact (getElem?_overwrite_inside _ hfit h1 h2).trans (hr.getElem?_lenBuf (by omega))

/-- Settles O30: an empty list faults before the extra bits are read, cut-off bits before the overrun is tested. -/
theorem codeLengthFaultsComeInOrder : Obligations.CodeLengthFaultsComeInOrder := by
  intro i s sym hi hp
  refine ⟨fun hsym hcnt => ?empty, fun e least (hr : s.RepeatHere sym e least) =>
    ⟨fun hend => ?cutOff, fun hend hover => ?overrun⟩⟩
  case empty =>
    subst hsym
    rw [exec_of_codeLength hi hp, State.codeLengthSymbol_of_repeatOf_error (le_refl 16) (State.repeatOf_empty hcnt)]
    rfl
  case cutOff =>
    rw [exec_of_codeLength hi hp,
      State.codeLengthSymbol_of_repeatOf_error hr.sixteen_le (hr.repeatOf_end hend)]
    rfl
  case overrun =>
    change s.nlit + s.ndist < s.lenCnt + s.repeatCount e least at hover
    rw [exec_of_codeLength hi hp, hr.codeLengthSymbol_eq hend, if_pos hover]
    rfl

/-- Settles O31: the list is complete, so the tables are built from its two parts, in the order of R194 and R195. -/
theorem theCompleteListGivesTheTables : Obligations.TheCompleteListGivesTheTables := by
  intro i s sym e rep val lens L D D' t hi hp happ htotal hnlit _ _ hbuf hlens hL hD hD' ht
  have happends : s.Appends sym e rep val := by
    obtain h | ⟨least, h, hend, hrep⟩ := happ
    · exact .inl h
    · obtain ⟨hr, hval⟩ := State.repeatHere_of_value h
      exact .inr ⟨least, hr, hend, hrep, hval⟩
  have hlen : lens.length = s.lenBuf.length := by
    rw [hlens]
    exact length_overwrite val (by omega)
  have hLlen : L.length = s.nlit := by rw [hL, List.length_take]; omega
  have hDlen : D.length = s.ndist := by rw [hD, List.length_take, List.length_drop]; omega
  have hpadded : paddedDistanceLengths D = D' := by rw [paddedDistanceLengths_eq, hDlen, hD']
  have happended : s.appended e rep val = t := by rw [ht, hlens]; rfl
  have hexec : exec i s = finish s t.buildBlockTables := by
    rw [exec_of_codeLength hi hp, happends.codeLengthSymbol_eq htotal.le hbuf, happended,
      State.afterLengths_of_complete (by rw [ht]; exact htotal)]
  have hspanL : t.lenSpan 0 t.nlit = L := by rw [hL, ht]; rfl
  have hspanD : t.lenSpan t.nlit t.ndist = D := by rw [hD, ht]; rfl
  have hlit := State.buildBlockTables_of_symbol256 hspanL (by omega)
  have hdist := fun tl =>
    State.buildDistanceTable_eq (s := { t with tblDynLL := some tl }) hspanD (by rw [hDlen, ht])
  refine ⟨fun h256 => ?missing, fun h256 k hk => ?literalFault, fun h256 tl htl =>
    ⟨fun hD0 => ?absent, fun hD0 k hk => ?distanceFault, fun hD0 td htd => ?present⟩⟩
  case missing =>
    rw [hexec, State.buildBlockTables_missing (by rw [hspanL, h256])]
    rfl
  case literalFault =>
    rw [hexec, hlit h256, hk]
    rfl
  case absent =>
    rw [hexec, hlit h256, htl, Except.bind, hdist, if_pos hD0]
    rfl
  case distanceFault =>
    rw [hexec, hlit h256, htl, Except.bind, hdist, if_neg hD0, hpadded, hk]
    rfl
  case present =>
    rw [hexec, hlit h256, htl, Except.bind, hdist, if_neg hD0, hpadded, htd]
    rfl

end

section
/-! PROOFS. The padded distance code of a block with a single distance symbol (spec/44_dynamic_tables.md R195(b)):
Build on lengths of which only two are used, both 1. -/

namespace Sys2Proof.Machine

/-! ### Build where few lengths are used -/

/-- Symbols of other lengths are passed over. -/
theorem assignLength_append {len : Nat} {a : List Nat} (h : len ∉ a) (b : List Nat) (s next : Nat) :
    assignLength len (a ++ b) s next = assignLength len b (s + a.length) next := by
  induction a generalizing s with
  | nil => rfl
  | cons l rest ih =>
    obtain ⟨hl, hrest⟩ := not_or.mp (mt List.mem_cons.mpr h)
    rw [List.cons_append, assignLength, if_neg (Ne.symm hl), ih hrest, List.length_cons, Nat.add_assoc, Nat.add_comm 1]

/-- A length that no symbol has leaves the counter alone. -/
theorem assignLength_of_not_mem {len : Nat} {lens : List Nat} (h : len ∉ lens) (s next : Nat) :
    assignLength len lens s next = .ok (next, []) := by
  have hskip := assignLength_append h [] s next
  rwa [List.append_nil] at hskip

/-- A symbol of the length takes the next code. -/
theorem assignLength_cons {len next n s : Nat} {rest : List Nat} {t : Table} (hroom : next < 2 ^ len)
    (h : assignLength len rest (s + 1) (next + 1) = .ok (n, t)) :
    assignLength len (len :: rest) s next = .ok (n, (codeKey len next, s) :: t) := by
  rw [assignLength, if_pos rfl, if_neg (Nat.not_le.mpr hroom), h]

/-- Lengths that no symbol has only double the counter. -/
theorem assignLengths_of_unused {lens todo : List Nat} (h : ∀ len ∈ todo, len ∉ lens) (next : Nat) :
    assignLengths lens todo next = .ok (2 ^ todo.length * next, []) := by
  induction todo generalizing next with
  | nil => rw [List.length_nil, Nat.pow_zero, Nat.one_mul]; rfl
  | cons len rest ih =>
    have hrest := ih (fun l hl => h l (List.mem_cons_of_mem _ hl)) (2 * next)
    rw [assignLengths, assignLength_of_not_mem (h len List.mem_cons_self)]
    dsimp only
    rw [hrest, List.length_cons, Nat.pow_succ, Nat.mul_assoc]
    rfl

/-- The lengths of a code with two symbols, both of length 1: the first behind `i` unused symbols, the second behind `k`
more. -/
def twoCodes (i k : Nat) : List Nat := List.replicate i 0 ++ 1 :: (List.replicate k 0 ++ [1])

theorem build_twoCodes (i k : Nat) : build (twoCodes i k) = .ok [(2, i), (3, i + 1 + k)] := by
  have hskip : ∀ n : Nat, 1 ∉ List.replicate n 0 := fun n hmem => absurd (List.eq_of_mem_replicate hmem) (by decide)
  have hones : assignLength 1 (twoCodes i k) 0 0 = .ok (2, [(2, i), (3, i + 1 + k)]) := by
    rw [twoCodes, assignLength_append (hskip i), List.length_replicate, Nat.zero_add]
    refine assignLength_cons (by decide) ?_
    rw [assignLength_append (hskip k), List.length_replicate]
    exact assignLength_cons (by decide) rfl
  have hunused : ∀ len ∈ [2, 3, 4, 5, 6, 7, 8, 9, 10, 11, 12, 13, 14, 15], len ∉ twoCodes i k := by
    intro len hlen hmem
    have hbit : len = 0 ∨ len = 1 := by
      simp only [twoCodes, List.mem_append, List.mem_cons, List.mem_replicate, List.not_mem_nil] at hmem
      tauto
    rcases hbit with rfl | rfl <;> exact absurd hlen (by decide)
  rw [build, candidateLengths, assignLengths, hones]
  dsimp only
  rw [assignLengths_of_unused hunused]
  rfl

theorem replicate_zero_set_one {n j : Nat} (h : j < n) :
    (List.replicate n 0).set j 1 = List.replicate j 0 ++ 1 :: List.replicate (n - (j + 1)) 0 := by
  rw [List.set_eq_take_append_cons_drop, if_pos (by rwa [List.length_replicate]), List.take_replicate,
    List.drop_replicate, Nat.min_eq_left h.le]

/-- A single distance code of length 1, padded: it and symbol 31 share the code space. -/
theorem paddedDistanceLengths_single {n j : Nat} (hj : j < n) (hn : n ≤ 32) (hj30 : j ≤ 30) :
    paddedDistanceLengths ((List.replicate n 0).set j 1) = twoCodes j (30 - j) := by
  have hone := replicate_zero_set_one hj
  have hsingle : ((List.replicate n 0).set j 1).count 1 = 1 ∧ ∀ l ∈ (List.replicate n 0).set j 1, l ≤ 1 := by
    rw [hone]
    refine ⟨by simp [List.count_replicate], fun l hl => ?_⟩
    simp only [List.mem_append, List.mem_cons, List.mem_replicate] at hl
    omega
  have hpadded : (List.replicate n 0).set j 1 ++ List.replicate (32 - n) 0 =
      (List.replicate j 0 ++ 1 :: List.replicate (30 - j) 0) ++ [0] := by
    rw [hone, List.append_assoc, List.append_assoc, List.cons_append, List.cons_append,
      List.replicate_append_replicate, ← List.replicate_succ', show n - (j + 1) + (32 - n) = 30 - j + 1 by omega]
  have hfront : (List.replicate j 0 ++ 1 :: List.replicate (30 - j) 0).length = 31 := by
    rw [List.length_append, List.length_cons, List.length_replicate, List.length_replicate]
    omega
  rw [paddedDistanceLengths_eq, if_pos hsingle, List.length_set, List.length_replicate, hpadded,
    List.set_append_right _ _ hfront.le, hfront, twoCodes, List.append_assoc]
  rfl

end Sys2Proof.Machine

open Sys2Proof Sys2Proof.Machine

/-- Settles O32: the padded lengths are those of two codes of length 1. -/
theorem paddingMakesTheSingleDistanceCodeFull : Obligations.PaddingMakesTheSingleDistanceCodeFull := by
  intro n j hj hn hj30
  rw [paddedDistanceLengths_single hj hn hj30, build_twoCodes, show j + 1 + (30 - j) = 31 by omega]

end

section
/-! PROOFS. The statements about the top level (spec/45_top_level.md) that need one command or one step at a time: the
run as steps (O48), CSR.RD in FAILED (O39), the right to read OUT (O60). -/

namespace Sys2Proof.Machine

/-! ### A run as steps -/

/-- Steps inside a run go as far as the block decoder's elements do, and stop with it where the run has ended. -/
theorem State.Inv.exists_run_eq_runElements {s : State} (h : s.Inv) (n : Nat) :
    ∃ k, core.run k s = .next (s.runElements n) := by
  induction n generalizing s with
  | zero => exact ⟨0, rfl⟩
  | succ n ih =>
    unfold State.runElements
    split
    · exact ⟨0, rfl⟩
    · next hp =>
      obtain ⟨k, hk⟩ := ih h.elementStep
      refine ⟨k + 1, ?_⟩
      have hstep : core.step s = .next s.elementStep := h.step_eq_elementStep hp
      simp only [Host.Core.run, hstep]
      exact hk

/-! ### CSR.RD in FAILED -/

/-- In FAILED, CSR.RD answers a register of which only STATUS[7:0] is defined, and the next read meets fresh free values
(R215). -/
theorem exec_csrRd_of_failed {s : State} (hf : s.bdState = .failed) {n : Nat} (hn : n ≤ 5) :
    exec (.csrRd n) s = .next { s.respondOk (s.registerFailed n) with free := s.free + 1 } := by
  have hok : registerOk n = true := by
    simp only [registerOk, inRange, Bool.and_eq_true, decide_eq_true_eq]; omega
  change execCsrRd n s = _
  rw [execCsrRd, if_pos hok, if_pos hf]
  rfl

/-- STATUS[7:0] holds STATE and ERR, whatever the free value above it is (R27). -/
theorem State.registerFailed_zero_fields (s : State) :
    s.registerFailed 0 < 2 ^ 32 ∧ s.registerFailed 0 % 8 = s.bdState.code ∧
      s.registerFailed 0 / 8 % 32 = s.errCode := by
  have hst := s.bdState.code_le
  have herr := s.errCode_le
  simp only [State.registerFailed, State.statusLow]
  omega

/-! ### The right to read OUT -/

/-- What every command but RESET, BD.RUN and SW.CPY does: it leaves STATE, OUT and the right to read OUT as they are, or
it faults. -/
def KeepsOut (s t : State) : Prop :=
  (t.bdState = s.bdState ∧ t.outReady = s.outReady ∧ t.out = s.out) ∨ ∃ k, t = s.takeFault k

namespace KeepsOut

theorem of_unlessFailed {s t : State} {r : Result} (h : unlessFailed s r = .next t)
    (hr : r = .next t → KeepsOut s t) : KeepsOut s t := by
  unfold unlessFailed at h
  split at h
  · cases h; exact .inl ⟨rfl, rfl, rfl⟩
  · exact hr h

theorem of_finish {s t : State} {r : Except FaultKind State} (h : finish s r = .next t)
    (hr : r = .ok t → t.bdState = s.bdState ∧ t.outReady = s.outReady ∧ t.out = s.out) : KeepsOut s t :=
  (finish_cases h).imp hr fun ⟨k, _, ht⟩ => ⟨k, ht⟩

theorem of_brPos {s t : State} (h : execBrPos s = .next t) : KeepsOut s t :=
  of_unlessFailed h fun h => by cases h; exact .inl ⟨rfl, rfl, rfl⟩

theorem of_brTry {s t : State} (h : execBrTry s = .next t) : KeepsOut s t :=
  of_unlessFailed h fun h => by split at h <;> cases h <;> exact .inl ⟨rfl, rfl, rfl⟩

theorem of_brRdu {s t : State} {n : Int} (h : execBrRdu n s = .next t) : KeepsOut s t :=
  of_unlessFailed h fun h => of_finish h fun h => by
    split at h
    · next hr =>
      obtain ⟨_, hr⟩ | ⟨m, _, _, ⟨_, hr⟩ | ⟨_, hr⟩⟩ := State.readUint_cases hr <;> cases hr
      cases h
      exact ⟨rfl, rfl, rfl⟩
    · cases h

theorem of_hcBld {s t : State} {slot base count : Int} (h : execHcBld slot base count s = .next t) : KeepsOut s t :=
  of_unlessFailed h fun h => by
    split at h
    · refine of_finish h fun h => ?_
      split at h <;> cases h
      unfold State.setTable
      split <;> exact ⟨rfl, rfl, rfl⟩
    · cases h; exact .inl ⟨rfl, rfl, rfl⟩

theorem of_hcDec {s t : State} {slot : Int} (h : execHcDec slot s = .next t) : KeepsOut s t :=
  of_unlessFailed h fun h => by
    split at h
    · split at h
      · cases h; exact .inl ⟨rfl, rfl, rfl⟩
      · refine of_finish h fun h => ?_
        split at h
        · next hd =>
          obtain ⟨p, rfl, _⟩ := State.decodeSymbol_ok hd
          cases h
          exact ⟨rfl, rfl, rfl⟩
        · cases h
    · cases h; exact .inl ⟨rfl, rfl, rfl⟩

theorem of_swApp {s t : State} {byte : Int} (h : execSwApp byte s = .next t) : KeepsOut s t :=
  of_unlessFailed h fun h => by split at h <;> cases h <;> exact .inl ⟨rfl, rfl, rfl⟩

theorem of_lbSet {s t : State} {index value : Int} (h : execLbSet index value s = .next t) : KeepsOut s t :=
  of_unlessFailed h fun h => by split at h <;> cases h <;> exact .inl ⟨rfl, rfl, rfl⟩

theorem of_csrRd {s t : State} {number : Int} (h : execCsrRd number s = .next t) : KeepsOut s t := by
  unfold execCsrRd at h
  split at h
  · split at h <;> cases h <;> exact .inl ⟨rfl, rfl, rfl⟩
  · cases h; exact .inl ⟨rfl, rfl, rfl⟩

end KeepsOut

theorem exec_command_keepsOut {i : Instr} (hi : isCommand i) (hb : i ≠ .bdRun) (hr : i ≠ .reset)
    (hc : ∀ d l, i ≠ .swCpy d l) {s t : State} (h : exec i s = .next t) : KeepsOut s t := by
  obtain ⟨c, he⟩ := hi
  cases i
  case reset => exact absurd rfl hr
  case bdRun => exact absurd rfl hb
  case swCpy d l => exact absurd rfl (hc d l)
  case brPos => exact .of_brPos h
  case brTry => exact .of_brTry h
  case brRdu => exact .of_brRdu h
  case hcBld => exact .of_hcBld h
  case hcDec => exact .of_hcDec h
  case swApp => exact .of_swApp h
  case lbSet => exact .of_lbSet h
  case csrRd => exact .of_csrRd h
  case reserved11 | reserved12 | reserved13 | reserved14 | reserved15 => cases h; exact .inl ⟨rfl, rfl, rfl⟩
  all_goals cases he

/-- Without the right, the host reads nothing (R212). -/
theorem State.hostReadOut_of_not_ready {s : State} (h : s.outReady = false) : s.hostReadOut = none := by
  rw [State.hostReadOut, h]
  rfl

theorem State.hostReadOut_congr {s t : State} (hr : t.outReady = s.outReady) (ho : t.out = s.out) :
    t.hostReadOut = s.hostReadOut := by
  rw [State.hostReadOut, State.hostReadOut, hr, ho]

/-- In FAILED the host has no right to read OUT (R240). -/
theorem State.Inv.not_ready_of_failed {s : State} (h : s.Inv) (hf : s.bdState = .failed) : s.outReady = false := by
  cases hr : s.outReady
  · rfl
  · cases (h.ready_done hr).2.symm.trans hf

/-- SW.CPY ends the right, whether it copies, faults or is refused in FAILED, where there is none (R212, R240). -/
theorem State.Inv.not_ready_of_swCpy {s t : State} (h : s.Inv) {d l : Int} (hx : exec (.swCpy d l) s = .next t) :
    t.outReady = false := by
  by_cases hf : s.bdState = .failed
  · cases (unlessFailed_of_failed hf _).symm.trans hx
    exact h.not_ready_of_failed hf
  · cases hc : s.copyBack d l with
    | ok u => cases (exec_swCpy_of_copyBack_ok hf hc).symm.trans hx; rfl
    | error k => cases (exec_swCpy_of_copyBack_error hf hc).symm.trans hx; rfl

/-- BD.RUN gives the right exactly when it ends in Done (R212, R240). -/
theorem State.Inv.hostReadOut_of_bdRun {s t : State} (h : s.Inv) (hx : exec .bdRun s = .next t) :
    t.hostReadOut = if t.bdState = .done then some t.out else none := by
  by_cases hf : s.bdState = .failed
  · cases (unlessFailed_of_failed hf _).symm.trans hx
    exact (State.hostReadOut_of_not_ready (h.not_ready_of_failed hf)).trans (if_neg (by rw [hf]; decide)).symm
  · obtain ⟨u, v, hv, -, hend⟩ := exec_bdRun_ends hf
    cases hv.symm.trans hx
    obtain ⟨-, rfl⟩ | ⟨k, rfl⟩ := hend <;> rfl

end Sys2Proof.Machine

open Sys2Proof Sys2Proof.Machine

/-- Settles O48: the run has ended (O43), and its elements are steps (O52). -/
theorem bdRunIsTheElementMachineToItsEnd : Obligations.BdRunIsTheElementMachineToItsEnd := by
  intro s hi hf
  obtain ⟨t, hx, hidle, -⟩ := bdRunEndsInDoneOrFailed s hf (hi.err_none hf)
  obtain ⟨n, hn⟩ := (hi.perCallInit hf).exists_run_eq_runElements s.runFuel
  cases (exec_bdRun_of_not_failed hf).symm.trans hx
  exact ⟨n, _, hx, hidle, hn⟩

/-- Settles O39: STATE and ERR stand below the free values of the register. -/
theorem csrRdInFailedShowsStateAndErr : Obligations.CsrRdInFailedShowsStateAndErr := by
  intro s n hf hn
  refine ⟨BitVec.ofNat 32 (s.registerFailed n), exec_csrRd_of_failed hf hn, ?_⟩
  rintro rfl
  obtain ⟨hlt, hstate, herr⟩ := s.registerFailed_zero_fields
  rw [BitVec.toNat_ofNat, Nat.mod_eq_of_lt hlt, hstate, hf]
  exact ⟨rfl, herr⟩

/-- Settles O60: BD.RUN, RESET and SW.CPY each on its own; every other command keeps OUT and the right, or faults. -/
theorem theRightToReadOutEndsWithTheNextWrite : Obligations.TheRightToReadOutEndsWithTheNextWrite := by
  intro i s t hi h hx
  by_cases hb : i = .bdRun
  · subst hb
    have hread := h.hostReadOut_of_bdRun hx
    exact ⟨fun _ => hread, nofun, nofun, fun hf => hread.trans (if_neg (by rw [hf]; decide)),
      fun hne => absurd rfl hne⟩
  by_cases hr : i = .reset
  · subst hr
    cases hx
    exact ⟨nofun, fun _ => rfl, nofun, fun _ => rfl, fun _ hne => absurd rfl hne⟩
  by_cases hc : ∃ d l, i = .swCpy d l
  · obtain ⟨d, l, rfl⟩ := hc
    have hread := State.hostReadOut_of_not_ready (h.not_ready_of_swCpy hx)
    exact ⟨nofun, nofun, fun _ _ _ => hread, fun _ => hread, fun _ _ hne => absurd rfl (hne d l)⟩
  have hc' : ∀ d l, i ≠ .swCpy d l := fun d l he => hc ⟨d, l, he⟩
  refine ⟨fun he => absurd he hb, fun he => absurd he hr, fun d l he => absurd he (hc' d l), fun hf => ?failed,
    fun _ _ _ hnf => ?kept⟩
  case failed =>
    obtain ⟨hstate, hready, -⟩ | ⟨k, rfl⟩ := exec_command_keepsOut hi hb hr hc' hx
    · exact State.hostReadOut_of_not_ready (hready.trans (h.not_ready_of_failed (hstate.symm.trans hf)))
    · rfl
  case kept =>
    obtain ⟨-, hready, hout⟩ | ⟨k, rfl⟩ := exec_command_keepsOut hi hb hr hc' hx
    · exact ⟨State.hostReadOut_congr hready hout, hout⟩
    · exact absurd rfl hnf

end

section
/-! PROOFS. An element of a run as a read and an action: what the block decoder reads at its place, a field, a codeword
or nothing, is a position and a value; what it does with them is `Phase.act`. -/

namespace Sys2Proof.Machine

/-- The table whose codeword the block decoder reads next, where it reads one (R154, R193, R196). -/
def State.codewordTable (s : State) : Option Table :=
  match s.phase with
  | .codeLength => some (s.tblClc.getD [])
  | .symbol => some s.tableInForce
  | .distance _ => some s.distanceTableInForce
  | _ => none

/-- What the block decoder reads at its place: POS behind it, and its value. -/
def State.elementRead (s : State) : Except FaultKind (Nat × Nat) :=
  match fieldOfPhase s.phase with
  | some (_, n) => (s.readUint n).map fun r => (r.2.pos, r.1)
  | none =>
    match s.codewordTable with
    | some tbl => (s.decodeSymbol tbl).map fun r => (r.2.2.pos, r.2.1)
    | none => .ok (s.pos, 0)

variable {s : State}

theorem State.elementRead_of_field {f : Format} {n : Nat} (h : fieldOfPhase s.phase = some (f, n)) :
    s.elementRead = (s.readUint n).map fun r => (r.2.pos, r.1) := by
  rw [State.elementRead, h]

theorem State.elementRead_of_codeword {tbl : Table} (h : s.codewordTable = some tbl) :
    s.elementRead = (s.decodeSymbol tbl).map fun r => (r.2.2.pos, r.2.1) := by
  have hf : fieldOfPhase s.phase = none := by
    unfold State.codewordTable at h
    cases hp : s.phase <;> rw [hp] at h <;> cases h <;> rfl
  rw [State.elementRead, hf, h]

/-- The action of the place on a codeword that has been read. -/
theorem State.nextElement_of_codeword {tbl : Table} (h : s.codewordTable = some tbl) :
    s.nextElement = (s.decodeSymbol tbl).bind fun r => s.phase.act r.2.2 r.2.1 := by
  unfold State.codewordTable at h
  split at h <;> cases h
  · next hp => exact State.nextElement_codeLength hp
  · next hp => exact State.nextElement_symbol hp
  · next hp => exact State.nextElement_distance hp

/-- An element is a read, then the action of the place. -/
theorem State.nextElement_eq_act :
    s.nextElement = s.elementRead.bind fun r => s.phase.act (s.withPos r.1) r.2 := by
  cases hf : fieldOfPhase s.phase with
  | some r =>
    rw [State.nextElement_field hf, State.elementRead_of_field hf]
    cases hr : s.readUint (r.2 : Nat) with
    | error k => rfl
    | ok v =>
      obtain ⟨-, -, ht⟩ := State.eq_of_readUint_eq_ok (v := v.1) (t := v.2) hr
      show s.phase.act v.2 v.1 = s.phase.act (s.withPos v.2.pos) v.1
      rw [ht]
      rfl
  | none =>
    cases ht : s.codewordTable with
    | some tbl =>
      rw [State.nextElement_of_codeword ht, State.elementRead_of_codeword ht]
      cases hr : s.decodeSymbol tbl with
      | error k => rfl
      | ok v =>
        obtain ⟨p, hp, -⟩ := State.decodeSymbol_ok (key := v.1) (sym := v.2.1) (t := v.2.2) hr
        show s.phase.act v.2.2 v.2.1 = s.phase.act (s.withPos v.2.2.pos) v.2.1
        rw [hp]
        rfl
    | none =>
      rw [State.elementRead, hf, ht, State.nextElement]
      unfold State.codewordTable at ht
      obtain hp | hp | hp | hp | ⟨run, hp⟩ := fieldOfPhase_eq_none hf <;> rw [hp] at ht ⊢
      · rfl
      · rfl
      all_goals cases ht

/-- All that a read can answer: it faults because the input ends (the widths of fields are bit counts, R92, R222), or it
stays within IN (R11), and the codeword it has read is one of the table. -/
theorem State.elementRead_cases (s : State) :
    s.elementRead = .error .unexpectedEndOfStream ∨
      ∃ p w, s.elementRead = .ok (p, w) ∧ (s.pos ≤ 8 * s.inp.length → p ≤ 8 * s.inp.length) ∧
        ∀ tbl, s.codewordTable = some tbl → ∃ key, (key, w) ∈ tbl := by
  cases ht : s.codewordTable with
  | some tbl =>
    rw [State.elementRead_of_codeword ht]
    cases hr : s.decodeSymbol tbl with
    | error k => exact .inl (congrArg Except.error (State.decodeSymbol_error hr))
    | ok v =>
      obtain ⟨key, sym, t⟩ := v
      obtain ⟨-, -, -, -, hkey⟩ := State.decodeSymbol_ok hr
      exact .inr ⟨_, _, rfl, (Onward.decodeSymbol hr).1.bound, fun _ h => by
        cases h; exact ⟨key, mem_of_tableLookup hkey⟩⟩
  | none =>
    cases hf : fieldOfPhase s.phase with
    | some r =>
      have hn : r.2 ≤ 31 := fieldOfPhase_width_le (f := r.1) hf
      rw [State.elementRead_of_field hf]
      by_cases hle : s.pos + r.2 ≤ 8 * s.inLen
      · rw [State.readUint_ok hn hle]
        exact .inr ⟨_, _, rfl, fun _ => hle, nofun⟩
      · rw [State.readUint_end hn (Nat.lt_of_not_le hle)]
        exact .inl rfl
    | none => exact .inr ⟨_, _, by rw [State.elementRead, hf, ht], id, nofun⟩

end Sys2Proof.Machine

end

section
/-! PROOFS. The kinds that BD.RUN never raises (spec/43_block_decoder.md R159, R160, spec/45_top_level.md R210): every
value decoded lies in the alphabet of its place, so no action of the block decoder meets a value outside it. -/

namespace Sys2Proof.Machine

/-- A kind that BD.RUN may raise: not one of the four that R210 excludes. -/
abbrev FaultKind.Live (k : FaultKind) : Prop :=
  k ≠ .invalidBitCount ∧ k ≠ .invalidRunLength ∧ k ≠ .corruptSymbol ∧ k ≠ .invalidLength

/-! ### The alphabets of the places -/

/-- The value read at a place lies in the alphabet the block decoder expects there (R155, R193). -/
def Phase.inAlphabet (p : Phase) (w : Nat) : Prop :=
  match p with
  | .codeLength => w < 19
  | .symbol => w < 288
  | _ => True

/-- The tables from which the rest of the block decodes have only symbols of their alphabets. -/
def State.alphabetOk (s : State) : Prop :=
  match s.phase with
  | .codeLength => ∀ e ∈ s.tblClc.getD [], e.2 < 19
  | .symbol | .distance _ => ∀ e ∈ s.tableInForce, e.2 < 288
  | _ => True

/-- Build assigns keys to the indexes of its lengths only (R110). -/
theorem build_symbol_lt {lens : List Nat} {t : Table} (hb : build lens = .ok t) {e : Nat × Nat} (he : e ∈ t) :
    e.2 < lens.length := by
  obtain ⟨len, -, -, hs, -⟩ := build_key hb he
  exact (List.getElem?_eq_some_iff.mp hs).1

theorem fixedLLTable_symbol_lt {e : Nat × Nat} (he : e ∈ fixedLLTable.getD []) : e.2 < 288 := by
  rw [fixedLLTable_eq] at he
  cases hb : build fixedLLLens with
  | error k => rw [hb] at he; cases he
  | ok t =>
    rw [hb] at he
    exact (build_symbol_lt hb he).trans_eq (by simp only [fixedLLLens, List.length_append, List.length_replicate])

/-- What is decoded with such a table lies in the alphabet. -/
theorem State.alphabetOk.inAlphabet {s : State} (h : s.alphabetOk) {w : Nat}
    (hmem : ∀ tbl, s.codewordTable = some tbl → ∃ key, (key, w) ∈ tbl) : s.phase.inAlphabet w := by
  unfold State.alphabetOk at h
  unfold State.codewordTable at hmem
  cases hp : s.phase <;> rw [hp] at h hmem
  case codeLength | symbol =>
    obtain ⟨key, hkey⟩ := hmem _ rfl
    exact h _ hkey
  all_goals exact trivial

/-! ### Which kinds the operations raise -/

theorem build_error_live {lens : List Nat} {k : FaultKind} (h : build lens = .error k) : k.Live := by
  obtain ⟨⟨t, ht⟩, -⟩ | ⟨he, -⟩ | ⟨he, -⟩ := build_cases lens
  · cases h.symm.trans ht
  · cases h.symm.trans he; decide
  · cases h.symm.trans he; decide

theorem State.addExtra_error_live {s : State} {b e : Nat} (he : e ≤ 31) {k : FaultKind}
    (h : s.addExtra b e = .error k) : k.Live := by
  by_cases hend : s.pos + e ≤ 8 * s.inLen
  · cases h.symm.trans (State.addExtra_ok b he hend)
  · cases h.symm.trans (State.addExtra_end b he (Nat.lt_of_not_le hend)); decide

theorem State.setGroup_error_live {s : State} {g v : Nat} {k : FaultKind} (h : s.setGroup g v = .error k) :
    k.Live := by
  unfold State.setGroup State.buildCodeLengthCode at h
  dsimp only at h
  split at h
  · cases h
  split at h
  · cases h
  · next hb => cases h; exact build_error_live hb

theorem State.buildDistanceTable_error_live {s : State} {k : FaultKind} (h : s.buildDistanceTable = .error k) :
    k.Live := by
  unfold State.buildDistanceTable at h
  dsimp only at h
  split at h
  · cases h
  split at h
  · cases h
  · next hb => cases h; exact build_error_live hb

theorem State.afterLengths_error_live {s : State} {k : FaultKind} (h : s.afterLengths = .error k) : k.Live := by
  unfold State.afterLengths State.buildBlockTables at h
  dsimp only at h
  split at h
  · cases h
  split at h
  · cases h; decide
  split at h
  · exact State.buildDistanceTable_error_live h
  · next hb => cases h; exact build_error_live hb

/-- Symbols 16, 17 and 18 have a repeat; what fails is the empty list or the input (R193). -/
theorem State.repeatOf_error_live {s : State} {sym : Nat} (h16 : 16 ≤ sym) (h18 : sym < 19) {k : FaultKind}
    (h : s.repeatOf sym = .error k) : k.Live := by
  unfold State.repeatOf at h
  split at h
  · split at h
    · cases h; decide
    split at h
    · cases h
    · next hx => cases h; exact State.addExtra_error_live (by decide) hx
  split at h
  · split at h
    · cases h
    · next hx => cases h; exact State.addExtra_error_live (by decide) hx
  split at h
  · split at h
    · cases h
    · next hx => cases h; exact State.addExtra_error_live (by decide) hx
  · omega

theorem State.codeLengthSymbol_error_live {s : State} {sym : Nat} (hsym : sym < 19) {k : FaultKind}
    (h : s.codeLengthSymbol sym = .error k) : k.Live := by
  unfold State.codeLengthSymbol at h
  split at h
  · exact State.afterLengths_error_live h
  split at h
  · split at h
    · cases h; decide
    · exact State.afterLengths_error_live h
  · next hr => cases h; exact State.repeatOf_error_live (by omega) hsym hr

theorem State.runLength_error_live {s : State} {sym : Nat} {k : FaultKind} (h : s.runLength sym = .error k) :
    k.Live := by
  unfold State.runLength at h
  split at h
  · cases h
  split at h
  · exact State.addExtra_error_live (by unfold lengthExtraBits; omega) h
  split at h
  · cases h
  · cases h; decide

theorem State.distanceOf_error_live {s : State} {sym : Nat} {k : FaultKind} (h : s.distanceOf sym = .error k) :
    k.Live := by
  unfold State.distanceOf at h
  split at h
  · cases h
  split at h
  · exact State.addExtra_error_live (by unfold distanceExtraBits; omega) h
  · cases h; decide

/-- A run length that RunLength answers is in its range (R160), so InvalidRunLength is not raised. -/
theorem State.lengthSymbol_error_live {s : State} {sym : Nat} (hsym : 257 ≤ sym) {k : FaultKind}
    (h : s.lengthSymbol sym = .error k) : k.Live := by
  unfold State.lengthSymbol at h
  split at h
  · next hr => cases h; exact State.runLength_error_live hr
  · next hr =>
    have hrange := State.runLength_range hsym hr
    rw [if_neg (by omega)] at h
    split at h
    · cases h
    · cases h; decide

theorem State.literalLengthSymbol_error_live {s : State} {sym : Nat} (hsym : sym < 288) {k : FaultKind}
    (h : s.literalLengthSymbol sym = .error k) : k.Live := by
  unfold State.literalLengthSymbol at h
  split at h
  · cases h
  split at h
  · cases h
  split at h
  · exact State.lengthSymbol_error_live (by omega) h
  · omega

/-- The run length is no negative number, so InvalidLength is not raised. -/
theorem State.distanceSymbol_error_live {s : State} {run sym : Nat} {k : FaultKind}
    (h : s.distanceSymbol run sym = .error k) : k.Live := by
  unfold State.distanceSymbol at h
  split at h
  · next hr => cases h; exact State.distanceOf_error_live hr
  split at h
  · cases h; decide
  split at h
  · cases h
  · next hc =>
    cases h
    obtain ⟨-, he⟩ | ⟨-, -, hneg, -⟩ | ⟨-, -, -, he⟩ := State.copyBack_cases hc
    · cases he; decide
    · omega
    · cases he

/-- On a value of its alphabet the block decoder raises none of the four kinds. -/
theorem Phase.act_error_live {p : Phase} {s : State} {w : Nat} (hw : p.inAlphabet w) {k : FaultKind}
    (h : p.act s w = .error k) : k.Live := by
  cases p with
  | header =>
    change s.blockHeader _ _ = _ at h
    unfold State.blockHeader at h
    split at h <;> cases h
    decide
  | storedNlen len =>
    change s.storedComplement len w = _ at h
    unfold State.storedComplement at h
    split at h <;> cases h
    decide
  | preCll group => exact State.setGroup_error_live h
  | codeLength => exact State.codeLengthSymbol_error_live hw h
  | symbol => exact State.literalLengthSymbol_error_live hw h
  | distance run => exact State.distanceSymbol_error_live h
  | idle | storedPad | storedLen | storedData | preHlit | preHdist | preHclen => cases h

theorem State.nextElement_error_live {s : State} (ha : s.alphabetOk) {k : FaultKind} (h : s.nextElement = .error k) :
    k.Live := by
  rw [State.nextElement_eq_act] at h
  obtain hr | ⟨p, w, hr, -, hmem⟩ := s.elementRead_cases
  · rw [hr] at h
    cases h
    decide
  · rw [hr] at h
    exact Phase.act_error_live (ha.inAlphabet hmem) h

/-! ### The alphabets through a run -/

/-- A list of code lengths grows in LENBUF and LEN_CNT only. -/
theorem State.pushLengths_frame (s : State) (n v : Nat) :
    s.pushLengths n v =
      { s with lenBuf := (s.pushLengths n v).lenBuf, lenCnt := (s.pushLengths n v).lenCnt } := by
  induction n generalizing s with
  | zero => rfl
  | succ n ih => exact ih (s.pushLength v)

theorem State.alphabetOk_endBlock (s : State) : s.endBlock.alphabetOk := by
  unfold State.endBlock
  split <;> exact trivial

/-- A block of type 1 decodes with the fixed table. -/
theorem State.alphabetOk_blockHeader {s t : State} (hfixed : s.tblFixedLL = fixedLLTable) {f : Bool} {ty : Nat}
    (he : s.blockHeader f ty = .ok t) : t.alphabetOk := by
  unfold State.blockHeader at he
  split at he <;> cases he
  · exact trivial
  · intro e hmem
    change e ∈ s.tblFixedLL.getD [] at hmem
    rw [hfixed] at hmem
    exact fixedLLTable_symbol_lt hmem
  · exact trivial

/-- The code-length code is built from the 19 lengths of CLL (R192). -/
theorem State.alphabetOk_setGroup {s t : State} (hcll : s.cll.length = 19) {g v : Nat}
    (he : s.setGroup g v = .ok t) : t.alphabetOk := by
  unfold State.setGroup State.buildCodeLengthCode at he
  dsimp only at he
  split at he
  · cases he; exact trivial
  split at he
  · next hb =>
    cases he
    intro e hmem
    have hlt := build_symbol_lt hb hmem
    rwa [List.length_set, hcll] at hlt
  · cases he

theorem State.alphabetOk_of_dynLL {s : State} {tl : Table} (hp : s.phase = .symbol)
    (hb : s.bdState = .dynamicHuffmanBlock) (ht : s.tblDynLL = some tl) (hlt : ∀ e ∈ tl, e.2 < 288) :
    s.alphabetOk := by
  have hforce : s.tableInForce = tl := by rw [State.tableInForce, hb, ht]; rfl
  rw [State.alphabetOk, hp]
  exact hforce ▸ hlt

/-- The literal/length table is built from NLIT lengths, at most 288 (R194). -/
theorem State.alphabetOk_buildBlockTables {s t : State} (hb : s.bdState = .dynamicHuffmanBlock) (hn : s.nlit ≤ 288)
    (he : s.buildBlockTables = .ok t) : t.alphabetOk := by
  unfold State.buildBlockTables at he
  dsimp only at he
  split at he
  · cases he
  split at he
  · next tl htl =>
    have hlt : ∀ e ∈ tl, e.2 < 288 := fun e hmem => by
      have hlen := build_symbol_lt htl hmem
      rw [State.lenSpan, List.length_take] at hlen
      omega
    unfold State.buildDistanceTable at he
    dsimp only at he
    split at he
    · cases he; exact State.alphabetOk_of_dynLL rfl hb rfl hlt
    split at he
    · cases he; exact State.alphabetOk_of_dynLL rfl hb rfl hlt
    · cases he
  · cases he

/-- A code-length symbol that does not fault: it appends some lengths, at a POS behind its extra bits. -/
theorem State.afterLengths_of_codeLengthSymbol {s t : State} {sym : Nat} (he : s.codeLengthSymbol sym = .ok t) :
    ∃ p n v, ((s.withPos p).pushLengths n v).afterLengths = .ok t := by
  unfold State.codeLengthSymbol at he
  split at he
  · exact ⟨s.pos, 1, sym, he⟩
  split at he
  · next rep val u hr =>
    obtain ⟨⟨p, rfl, -⟩, -⟩ := State.repeatOf_ok hr
    split at he
    · cases he
    · exact ⟨p, rep, val, he⟩
  · cases he

theorem State.alphabetOk_codeLengthSymbol {s t : State} (hp : s.phase = .codeLength) (ha : s.alphabetOk)
    (hb : s.bdState = .dynamicHuffmanBlock) (hn : s.nlit ≤ 288) {sym : Nat} (he : s.codeLengthSymbol sym = .ok t) :
    t.alphabetOk := by
  obtain ⟨p, n, v, he⟩ := State.afterLengths_of_codeLengthSymbol he
  rw [State.alphabetOk, hp] at ha
  rw [State.pushLengths_frame] at he
  unfold State.afterLengths at he
  split at he
  · cases he; exact ha
  · exact State.alphabetOk_buildBlockTables (by exact hb) (by exact hn) he

theorem State.alphabetOk_literalLengthSymbol {s t : State} (hp : s.phase = .symbol) (ha : s.alphabetOk) {sym : Nat}
    (he : s.literalLengthSymbol sym = .ok t) : t.alphabetOk := by
  rw [State.alphabetOk, hp] at ha
  unfold State.literalLengthSymbol at he
  split at he
  · cases he; exact s.alphabetOk_endBlock
  split at he
  · cases he; exact ha
  split at he
  · unfold State.lengthSymbol at he
    split at he
    · cases he
    next hr =>
    obtain ⟨p, rfl, -⟩ := State.runLength_ok hr
    split at he
    · cases he
    split at he <;> cases he
    exact ha
  · cases he

theorem State.alphabetOk_distanceSymbol {s t : State} {run sym : Nat} (hp : s.phase = .distance run)
    (ha : s.alphabetOk) (he : s.distanceSymbol run sym = .ok t) : t.alphabetOk := by
  rw [State.alphabetOk, hp] at ha
  unfold State.distanceSymbol at he
  split at he
  · cases he
  next hr =>
  obtain ⟨p, rfl, -⟩ := State.distanceOf_ok hr
  split at he
  · cases he
  split at he
  · next hc =>
    cases he
    obtain ⟨-, hx⟩ | ⟨-, -, -, hx⟩ | ⟨-, -, -, hx⟩ := State.copyBack_cases hc <;> cases hx
    rw [copyLoop_frame]
    exact ha
  · cases he

/-- An element that does not fault leaves tables of the right alphabets for the next one. -/
theorem State.Inv.alphabetOk_nextElement {s t : State} (h : s.Inv) (ha : s.alphabetOk) (he : s.nextElement = .ok t) :
    t.alphabetOk := by
  obtain ⟨p, w, he⟩ := State.act_of_nextElement he
  have hpl := h.place
  rw [State.placeOk] at hpl
  cases hp : s.phase <;> rw [hp] at he hpl
  case idle => cases he; exact ha
  case header => exact State.alphabetOk_blockHeader (s := s.withPos p) h.fixedLL he
  case storedPad | storedLen | preHlit | preHdist | preHclen => cases he; exact trivial
  case storedNlen len =>
    change State.storedComplement _ len w = _ at he
    unfold State.storedComplement at he
    split at he <;> cases he
    split
    · exact State.alphabetOk_endBlock _
    · exact trivial
  case storedData left =>
    cases he
    unfold State.storedByte
    dsimp only
    split
    · exact State.alphabetOk_endBlock _
    · exact trivial
  case preCll group => exact State.alphabetOk_setGroup (s := s.withPos p) h.cll_ok.1 he
  case codeLength => exact State.alphabetOk_codeLengthSymbol (s := s.withPos p) hp ha hpl.1 h.nlit_range.2 he
  case symbol => exact State.alphabetOk_literalLengthSymbol (s := s.withPos p) hp ha he
  case distance run => exact State.alphabetOk_distanceSymbol (s := s.withPos p) hp ha he

/-- A run that faults does so with a kind that is none of the four. -/
theorem State.Inv.runElements_err_live {s : State} (h : s.Inv) (ha : s.alphabetOk) (he : s.err = none) (n : Nat)
    {k : FaultKind} (hk : (s.runElements n).err = some k) : k.Live := by
  induction n generalizing s with
  | zero => cases he.symm.trans hk
  | succ n ih =>
    unfold State.runElements State.elementStep at hk
    split at hk
    · cases he.symm.trans hk
    cases hx : s.nextElement with
    | ok t =>
      rw [hx] at hk
      exact ih (h.nextElement hx) (h.alphabetOk_nextElement ha hx) ((State.nextElement_onward hx).1.err.trans he) hk
    | error j =>
      rw [hx] at hk
      dsimp only at hk
      rw [State.runElements_of_idle rfl, State.takeFault_err, he] at hk
      cases hk
      exact State.nextElement_error_live ha hx

end Sys2Proof.Machine

open Sys2Proof Sys2Proof.Machine

/-- Settles O44: every table that the run decodes with was built for its alphabet, or is the fixed one. -/
theorem bdRunNeverRaisesTheDeadKinds : Obligations.BdRunNeverRaisesTheDeadKinds := by
  intro s t h hf hx
  cases (exec_bdRun_of_not_failed hf).symm.trans hx
  have live : ∀ k, (s.perCallInit.runElements s.runFuel).err = some k → k.Live := fun k hk =>
    (h.perCallInit hf).runElements_err_live trivial (h.err_none hf) s.runFuel hk
  refine ⟨fun hk => ?_, fun hk => ?_, fun hk => ?_, fun hk => ?_⟩
  all_goals exact absurd (live _ hk) (by decide)

end

section
/-! PROOFS. BD.RUN depends on IN alone (spec/45_top_level.md R210): two runs on the same input agree, element by
element, on everything that the rest of the run reads, and so on how they end. -/

namespace Sys2Proof.Machine

/-! ### What a run does not read -/

/-- `s` with the elements of `r` that no place of a run reads before writing them (the preamble's registers, LENBUF,
TBL[2..4]) and those that none reads at all (the last response, the port, the counters of free values). -/
def State.withRest (s r : State) : State :=
  { s with
    tblClc := r.tblClc, tblDynLL := r.tblDynLL, tblDynD := r.tblDynD
    nlit := r.nlit, ndist := r.ndist, nclen := r.nclen, cll := r.cll, lenBuf := r.lenBuf, lenCnt := r.lenCnt
    winEra := r.winEra, port := r.port, resp := r.resp, free := r.free }

/-- `s` and `u` agree on what the places from `s.phase` on still read of the rest: the counts and lengths of a preamble
that have been set, the tables of a block, and in the end the response. -/
def State.sameLive (s u : State) : Prop :=
  match s.phase with
  | .idle => u.resp = s.resp
  | .preHdist => u.nlit = s.nlit
  | .preHclen => u.nlit = s.nlit ∧ u.ndist = s.ndist
  | .preCll _ => u.nlit = s.nlit ∧ u.ndist = s.ndist ∧ u.nclen = s.nclen ∧ u.cll = s.cll
  | .codeLength =>
    u.nlit = s.nlit ∧ u.ndist = s.ndist ∧ u.tblClc = s.tblClc ∧ u.lenCnt = s.lenCnt ∧
      u.lenBuf.take s.lenCnt = s.lenBuf.take s.lenCnt
  | .symbol | .distance _ => u.tableInForce = s.tableInForce ∧ u.distanceTableInForce = s.distanceTableInForce
  | .header | .storedPad | .storedLen | .storedNlen _ | .storedData _ | .preHlit => True

/-- Two states of runs on the same input that the rest of the run does not tell apart. -/
structure SameRun (s u : State) : Prop where
  core : u = s.withRest u
  live : s.sameLive u

/-- Two results of an element that the rest of the run does not tell apart: the same fault, or such states. -/
inductive SameResult : Except FaultKind State → Except FaultKind State → Prop
  | ok {s u : State} (h : SameRun s u) : SameResult (.ok s) (.ok u)
  | error (k : FaultKind) : SameResult (.error k) (.error k)

theorem SameRun.phase_eq {s u : State} (h : SameRun s u) : u.phase = s.phase := by
  rw [h.core]
  rfl

theorem SameRun.withPos {s u : State} (h : SameRun s u) (p : Nat) : SameRun (s.withPos p) (u.withPos p) :=
  ⟨congrArg (State.withPos · p) h.core, h.live⟩

theorem SameRun.withRest_withPos {s u : State} (h : SameRun s u) (p : Nat) :
    (s.withPos p).withRest u = u.withPos p := (congrArg (State.withPos · p) h.core).symm

/-! ### Reads -/

theorem State.readUint_withRest (s r : State) (n : Int) :
    (s.withRest r).readUint n = (s.readUint n).map fun v => (v.1, v.2.withRest r) := by
  unfold State.readUint
  change (if _ then _ else if 8 * s.inLen < s.pos + n.toNat then _ else _) = _
  split
  · rfl
  · split <;> rfl

theorem State.decodeSymbol_withRest (s r : State) (t : Table) :
    (s.withRest r).decodeSymbol t = (s.decodeSymbol t).map fun v => (v.1, v.2.1, v.2.2.withRest r) := by
  unfold State.decodeSymbol
  dsimp only [State.withRest, State.inLen]
  split <;> rfl

theorem SameRun.codewordTable_eq {s u : State} (h : SameRun s u) : u.codewordTable = s.codewordTable := by
  have hlive := h.live
  unfold State.sameLive at hlive
  unfold State.codewordTable
  rw [h.phase_eq]
  cases hp : s.phase <;> rw [hp] at hlive
  case codeLength =>
    obtain ⟨-, -, ht, -⟩ := hlive
    dsimp only
    rw [ht]
  case symbol => exact congrArg some hlive.1
  case distance => exact congrArg some hlive.2

theorem SameRun.elementRead_eq {s u : State} (h : SameRun s u) : u.elementRead = s.elementRead := by
  unfold State.elementRead
  rw [h.phase_eq, h.codewordTable_eq, h.core]
  split
  · rw [State.readUint_withRest]
    cases s.readUint _ <;> rfl
  split
  · rw [State.decodeSymbol_withRest]
    cases s.decodeSymbol _ <;> rfl
  · rfl

/-! ### Operands with extra bits -/

theorem State.addExtra_withRest (s r : State) (b e : Nat) :
    (s.withRest r).addExtra b e = (s.addExtra b e).map fun v => (v.1, v.2.withRest r) := by
  rw [State.addExtra, State.addExtra, State.readUint_withRest]
  cases s.readUint e <;> rfl

theorem State.runLength_withRest (s r : State) (sym : Nat) :
    (s.withRest r).runLength sym = (s.runLength sym).map fun v => (v.1, v.2.withRest r) := by
  unfold State.runLength
  split
  · rfl
  split
  · exact State.addExtra_withRest s r _ _
  split <;> rfl

theorem State.distanceOf_withRest (s r : State) (sym : Nat) :
    (s.withRest r).distanceOf sym = (s.distanceOf sym).map fun v => (v.1, v.2.withRest r) := by
  unfold State.distanceOf
  split
  · rfl
  split
  · exact State.addExtra_withRest s r _ _
  · rfl

/-! ### The window -/

/-- A cell that has been written has its byte, whatever the free values are (R17, R18). -/
theorem SameRun.windowByte_eq {s u : State} (h : SameRun s u) {a : Nat} (ha : (Memory.read s.win a).isSome = true) :
    u.windowByte a = s.windowByte a := by
  obtain ⟨b, hb⟩ := Option.isSome_iff_exists.mp ha
  have hwin : u.win = s.win := by rw [h.core]; rfl
  rw [State.windowByte, State.windowByte, hwin, hb, Option.getD_some, Option.getD_some]

theorem SameRun.emit {s u : State} (h : SameRun s u) (b : Byte) : SameRun (s.emit b) (u.emit b) :=
  ⟨congrArg (State.emit · b) h.core, h.live⟩

/-- A copy at a distance within the window reads only cells that have been written (R18, R131). -/
theorem SameRun.copyLoop {s u : State} (h : SameRun s u) (hs : s.Inv) (hf : s.bdState ≠ .failed) {d a : Nat}
    (h1 : 1 ≤ d) (hd : d ≤ s.cnt) (ha : a = (s.cur + 32768 - d) % 32768) (n : Nat) :
    SameRun (copyLoop s a n) (copyLoop u a n) := by
  induction n generalizing s u a with
  | zero => exact h
  | succ n ih =>
    have hcur : s.cur < 32768 := hs.cur_lt
    have hcnt : s.cnt ≤ 32768 := hs.cnt_le
    have hb : u.windowByte a = s.windowByte a := h.windowByte_eq (ha ▸ hs.backed hf d h1 hd)
    have hd' : d ≤ min (s.cnt + 1) 32768 := by omega
    have ha' : (a + 1) % 32768 = ((s.cur + 1) % 32768 + 32768 - d) % 32768 := by omega
    rw [Machine.copyLoop, Machine.copyLoop, hb]
    exact ih (h.emit _) (hs.emit _) hf hd' ha'

/-- CopyBack does the same to the same window (R131). -/
theorem SameRun.copyBack {s u : State} (h : SameRun s u) (hs : s.Inv) (hf : s.bdState ≠ .failed) (d n : Nat) :
    SameResult (s.copyBack d n) (u.copyBack d n) := by
  have hcnt : u.cnt = s.cnt := by rw [h.core]; rfl
  have hcur : u.cur = s.cur := by rw [h.core]; rfl
  by_cases hd : 1 ≤ d ∧ d ≤ s.cnt
  · rw [State.copyBack_ok n hd.1 hd.2 hs.cnt_le hs.cur_lt,
      State.copyBack_ok n hd.1 (hcnt ▸ hd.2) (hcnt ▸ hs.cnt_le) (hcur ▸ hs.cur_lt), hcur]
    exact .ok (h.copyLoop hs hf hd.1 hd.2 rfl n)
  · rw [State.copyBack_of_bad_distance _ (by omega), State.copyBack_of_bad_distance _ (by omega)]
    exact .error _

theorem State.copyBack_phase {s t : State} {d l : Int} (h : s.copyBack d l = .ok t) : t.phase = s.phase := by
  obtain ⟨_, hx⟩ | ⟨_, _, _, hx⟩ | ⟨_, _, _, hx⟩ := State.copyBack_cases h <;> cases hx
  rw [copyLoop_frame]

/-! ### The actions that read nothing of the rest -/

section Actions

variable {s u : State}

theorem SameRun.endBlock (hcore : u = s.withRest u) : SameRun s.endBlock u.endBlock := by
  obtain ⟨r, rfl⟩ : ∃ r, u = s.withRest r := ⟨u, hcore⟩
  unfold State.endBlock
  change SameRun _ (if s.final then _ else _)
  split
  · exact ⟨rfl, rfl⟩
  · exact ⟨rfl, trivial⟩

theorem SameResult.blockHeader (hcore : u = s.withRest u) (f : Bool) (ty : Nat) :
    SameResult (s.blockHeader f ty) (u.blockHeader f ty) := by
  obtain ⟨r, rfl⟩ : ∃ r, u = s.withRest r := ⟨u, hcore⟩
  unfold State.blockHeader
  split
  · exact .ok ⟨rfl, trivial⟩
  · exact .ok ⟨rfl, rfl, rfl⟩
  · exact .ok ⟨rfl, trivial⟩
  · exact .error _

theorem SameResult.storedComplement (hcore : u = s.withRest u) (len w : Nat) :
    SameResult (s.storedComplement len w) (u.storedComplement len w) := by
  unfold State.storedComplement
  split
  · split
    · exact .ok (.endBlock hcore)
    · exact .ok ⟨congrArg (State.goto · _) hcore, trivial⟩
  · exact .error _

theorem SameRun.storedByte (hcore : u = s.withRest u) (left b : Nat) :
    SameRun (s.storedByte left b) (u.storedByte left b) := by
  have hemit : u.emit (BitVec.ofNat 8 b) = (s.emit (BitVec.ofNat 8 b)).withRest (u.emit (BitVec.ofNat 8 b)) :=
    congrArg (State.emit · _) hcore
  unfold State.storedByte
  dsimp only
  split
  · exact .endBlock hemit
  · exact ⟨congrArg (State.goto · _) hemit, trivial⟩

/-! ### The preamble -/

theorem SameRun.setGroup {g : Nat} (h : SameRun s u) (hp : s.phase = .preCll g) (v : Nat) :
    SameResult (s.setGroup g v) (u.setGroup g v) := by
  obtain ⟨hcore, hlive⟩ := h
  rw [State.sameLive, hp] at hlive
  obtain ⟨hnlit, hndist, hnclen, hcll⟩ := hlive
  obtain ⟨r, rfl⟩ : ∃ r, u = s.withRest r := ⟨u, hcore⟩
  unfold State.setGroup State.buildCodeLengthCode
  dsimp only
  rw [hnclen, hcll]
  split
  · exact .ok ⟨rfl, hnlit, hndist, rfl, rfl⟩
  cases build (s.cll.set (slotOfGroup g) v) with
  | ok t => exact .ok ⟨rfl, hnlit, hndist, rfl, rfl, rfl⟩
  | error k => exact .error k

theorem tableInForce_congr (hb : u.bdState = s.bdState) (hf : u.tblFixedLL = s.tblFixedLL)
    (ht : u.tblDynLL = s.tblDynLL) : u.tableInForce = s.tableInForce := by
  rw [State.tableInForce, State.tableInForce, hb, hf, ht]

theorem distanceTableInForce_congr (hb : u.bdState = s.bdState) (hf : u.tblFixedD = s.tblFixedD)
    (ht : u.tblDynD = s.tblDynD) : u.distanceTableInForce = s.distanceTableInForce := by
  rw [State.distanceTableInForce, State.distanceTableInForce, hb, hf, ht]

theorem SameResult.buildDistanceTable (hcore : u = s.withRest u) (hll : u.tblDynLL = s.tblDynLL)
    (hndist : u.ndist = s.ndist) (hspan : u.lenSpan u.nlit u.ndist = s.lenSpan s.nlit s.ndist) :
    SameResult s.buildDistanceTable u.buildDistanceTable := by
  unfold State.buildDistanceTable
  dsimp only
  rw [hspan, hndist]
  obtain ⟨r, rfl⟩ : ∃ r, u = s.withRest r := ⟨u, hcore⟩
  split
  · exact .ok ⟨rfl, tableInForce_congr rfl rfl hll, distanceTableInForce_congr rfl rfl rfl⟩
  cases build (paddedDistanceLengths (s.lenSpan s.nlit s.ndist)) with
  | ok t => exact .ok ⟨rfl, tableInForce_congr rfl rfl hll, distanceTableInForce_congr rfl rfl rfl⟩
  | error k => exact .error k

/-- The tables of a block, from lists of code lengths that are the same as far as those tables need (R194, R195). -/
theorem SameResult.buildBlockTables (hcore : u = s.withRest u) (hnlit : u.nlit = s.nlit) (hndist : u.ndist = s.ndist)
    (hspan : ∀ b c, b + c ≤ s.nlit + s.ndist → u.lenSpan b c = s.lenSpan b c) :
    SameResult s.buildBlockTables u.buildBlockTables := by
  have hl : u.lenSpan 0 u.nlit = s.lenSpan 0 s.nlit := by rw [hnlit]; exact hspan _ _ (by omega)
  have hd : u.lenSpan u.nlit u.ndist = s.lenSpan s.nlit s.ndist := by rw [hnlit, hndist]; exact hspan _ _ (by omega)
  unfold State.buildBlockTables
  dsimp only
  rw [hl]
  split
  · exact .error _
  cases build (s.lenSpan 0 s.nlit) with
  | ok t => exact .buildDistanceTable (congrArg (fun x : State => { x with tblDynLL := some t }) hcore) rfl hndist hd
  | error k => exact .error k

/-- A span of a list that lies within the first `n` entries depends on these alone. -/
theorem lenSpan_eq_of_take {n b c : Nat} (h : u.lenBuf.take n = s.lenBuf.take n) (hn : b + c ≤ n) :
    u.lenSpan b c = s.lenSpan b c := by
  have span : ∀ l : List Nat, (l.drop b).take c = ((l.take n).drop b).take c := fun l => by
    rw [List.drop_take, List.take_take, Nat.min_eq_left (by omega)]
  rw [State.lenSpan, State.lenSpan, span, h, ← span]

theorem SameRun.afterLengths (h : SameRun s u) (hp : s.phase = .codeLength) :
    SameResult s.afterLengths u.afterLengths := by
  have hlive := h.live
  rw [State.sameLive, hp] at hlive
  obtain ⟨hnlit, hndist, htbl, hcnt, hbuf⟩ := hlive
  unfold State.afterLengths
  rw [hcnt, State.lengthTotal, State.lengthTotal, hnlit, hndist]
  split
  · exact .ok ⟨congrArg (State.goto · _) h.core, hnlit, hndist, htbl, hcnt, hbuf⟩
  · exact .buildBlockTables h.core hnlit hndist fun b c hle => lenSpan_eq_of_take hbuf (by omega)

theorem SameRun.pushLengths (h : SameRun s u) (hp : s.phase = .codeLength) {n : Nat} (v : Nat)
    (hs : s.lenCnt + n ≤ s.lenBuf.length) (hu : s.lenCnt + n ≤ u.lenBuf.length) :
    SameRun (s.pushLengths n v) (u.pushLengths n v) := by
  have hlive := h.live
  rw [State.sameLive, hp] at hlive
  obtain ⟨hnlit, hndist, htbl, hcnt, hbuf⟩ := hlive
  have filled : ∀ l : List Nat, s.lenCnt + n ≤ l.length →
      (l.take s.lenCnt ++ List.replicate n v ++ l.drop (s.lenCnt + n)).take (s.lenCnt + n) =
        l.take s.lenCnt ++ List.replicate n v := fun l hl =>
    List.take_left' (by rw [List.length_append, List.length_take, List.length_replicate]; omega)
  rw [State.pushLengths_eq s n v hs, State.pushLengths_eq u n v (hcnt ▸ hu), hcnt]
  constructor
  · rw [h.core]
    rfl
  · rw [State.sameLive]
    dsimp only
    rw [hp]
    exact ⟨hnlit, hndist, htbl, rfl, by rw [filled _ hu, filled _ hs, hbuf]⟩

/-- The repeat of a code-length symbol reads at most the last length of the list (R193). -/
theorem SameRun.repeatOf_eq (h : SameRun s u) (hp : s.phase = .codeLength) (sym : Nat) :
    u.repeatOf sym = (s.repeatOf sym).map fun v => (v.1, v.2.1, v.2.2.withRest u) := by
  have hlive := h.live
  rw [State.sameLive, hp] at hlive
  obtain ⟨-, -, -, hcnt, hbuf⟩ := hlive
  have extra : ∀ b e, u.addExtra b e = (s.addExtra b e).map fun v => (v.1, v.2.withRest u) := fun b e => by
    conv_lhs => rw [h.core]
    exact State.addExtra_withRest s u b e
  unfold State.repeatOf
  rw [hcnt, extra, extra, extra]
  split
  · split
    · rfl
    · next hne =>
      have hlast : u.lenBuf.getD (s.lenCnt - 1) 0 = s.lenBuf.getD (s.lenCnt - 1) 0 := by
        rw [List.getD_eq_getElem?_getD, List.getD_eq_getElem?_getD,
          ← List.getElem?_take_of_lt (by omega : s.lenCnt - 1 < s.lenCnt), hbuf,
          List.getElem?_take_of_lt (by omega)]
      rw [hlast]
      cases s.addExtra 3 2 <;> rfl
  split
  · cases s.addExtra 3 3 <;> rfl
  split
  · cases s.addExtra 11 7 <;> rfl
  · rfl

theorem SameRun.codeLengthSymbol (h : SameRun s u) (hp : s.phase = .codeLength) (hs : s.Inv) (hu : u.Inv) (sym : Nat) :
    SameResult (s.codeLengthSymbol sym) (u.codeLengthSymbol sym) := by
  have hpl := hs.place
  rw [State.placeOk, hp] at hpl
  obtain ⟨-, -, hlt⟩ := hpl
  have hlive := h.live
  rw [State.sameLive, hp] at hlive
  obtain ⟨hnlit, hndist, -, hcnt, -⟩ := hlive
  have htotal : u.lengthTotal = s.lengthTotal := congrArg₂ (· + ·) hnlit hndist
  have hbuf : s.lengthTotal ≤ 320 := Nat.add_le_add hs.nlit_range.2 hs.ndist_range.2
  rw [← hs.lenBuf_ok.1] at hbuf
  have hlen : u.lenBuf.length = s.lenBuf.length := hu.lenBuf_ok.1.trans hs.lenBuf_ok.1.symm
  unfold State.codeLengthSymbol
  rw [h.repeatOf_eq hp]
  split
  · exact (h.pushLengths hp (n := 1) sym (by omega) (by omega)).afterLengths hp
  cases hr : s.repeatOf sym with
  | error k => exact .error k
  | ok r =>
    obtain ⟨rep, val, t⟩ := r
    obtain ⟨⟨p, rfl, -⟩, -⟩ := State.repeatOf_ok hr
    dsimp only [Except.map]
    rw [h.withRest_withPos]
    change SameResult (if s.lengthTotal < s.lenCnt + rep then _ else _)
      (if u.lengthTotal < u.lenCnt + rep then _ else _)
    rw [htotal, hcnt]
    split
    · exact .error _
    · refine ((h.withPos p).pushLengths hp val ?_ ?_).afterLengths (by rw [State.pushLengths_frame]; exact hp)
      · show s.lenCnt + rep ≤ s.lenBuf.length; omega
      · show s.lenCnt + rep ≤ u.lenBuf.length; omega

/-! ### The symbols of a Huffman block -/

theorem SameRun.lengthSymbol (h : SameRun s u) (hp : s.phase = .symbol) (sym : Nat) :
    SameResult (s.lengthSymbol sym) (u.lengthSymbol sym) := by
  have hlive := h.live
  rw [State.sameLive, hp] at hlive
  have hpresent : u.distPresent = s.distPresent := by rw [h.core]; rfl
  have hrun : u.runLength sym = (s.runLength sym).map fun v => (v.1, v.2.withRest u) := by
    conv_lhs => rw [h.core]
    exact State.runLength_withRest s u sym
  unfold State.lengthSymbol
  rw [hrun]
  cases hr : s.runLength sym with
  | error k => exact .error k
  | ok r =>
    obtain ⟨run, t⟩ := r
    obtain ⟨p, rfl, -⟩ := State.runLength_ok hr
    dsimp only [Except.map]
    rw [h.withRest_withPos, State.withPos_distPresent, State.withPos_distPresent, hpresent]
    split
    · exact .error _
    split
    · exact .ok ⟨congrArg (State.goto · _) (h.withPos p).core, hlive⟩
    · exact .error _

theorem SameRun.literalLengthSymbol (h : SameRun s u) (hp : s.phase = .symbol) (sym : Nat) :
    SameResult (s.literalLengthSymbol sym) (u.literalLengthSymbol sym) := by
  have hlive := h.live
  rw [State.sameLive, hp] at hlive
  unfold State.literalLengthSymbol
  split
  · exact .ok (.endBlock h.core)
  split
  · exact .ok ⟨congrArg (fun x : State => (x.emit (BitVec.ofNat 8 sym)).goto .symbol) h.core, hlive⟩
  split
  · exact h.lengthSymbol hp sym
  · exact .error _

theorem SameRun.distanceSymbol {run : Nat} (h : SameRun s u) (hp : s.phase = .distance run) (hs : s.Inv) (sym : Nat) :
    SameResult (s.distanceSymbol run sym) (u.distanceSymbol run sym) := by
  have hf := hs.not_failed (by rw [hp]; exact Phase.noConfusion)
  have hdist : u.distanceOf sym = (s.distanceOf sym).map fun v => (v.1, v.2.withRest u) := by
    conv_lhs => rw [h.core]
    exact State.distanceOf_withRest s u sym
  unfold State.distanceSymbol
  rw [hdist]
  cases hr : s.distanceOf sym with
  | error k => exact .error k
  | ok r =>
    obtain ⟨d, t⟩ := r
    obtain ⟨p, rfl, -, hle⟩ := State.distanceOf_ok hr
    dsimp only [Except.map]
    rw [h.withRest_withPos]
    split
    · exact .error _
    have hcopy := (h.withPos p).copyBack (hs.withPos (hle hs.pos_le)) hf d run
    generalize hx : (s.withPos p).copyBack d run = x at hcopy ⊢
    generalize (u.withPos p).copyBack d run = y at hcopy ⊢
    cases hcopy with
    | error k => exact .error k
    | ok hc =>
      have htables := hc.live
      rw [State.sameLive, (State.copyBack_phase hx).trans hp] at htables
      exact .ok ⟨congrArg (State.goto · _) hc.core, htables⟩

/-! ### Elements and runs -/

theorem SameRun.act (h : SameRun s u) (hs : s.Inv) (hu : u.Inv) (w : Nat) :
    SameResult (s.phase.act s w) (u.phase.act u w) := by
  have hlive := h.live
  unfold State.sameLive at hlive
  rw [h.phase_eq]
  cases hp : s.phase <;> rw [hp] at hlive
  case idle => exact .ok h
  case header => exact .blockHeader h.core _ _
  case storedPad => exact .ok ⟨congrArg State.skipPadding h.core, trivial⟩
  case storedLen => exact .ok ⟨congrArg (State.storedLength · w) h.core, trivial⟩
  case storedNlen len => exact .storedComplement h.core len w
  case storedData left => exact .ok (.storedByte h.core left w)
  case preHlit => exact .ok ⟨congrArg (State.setHlit · w) h.core, rfl⟩
  case preHdist => exact .ok ⟨congrArg (State.setHdist · w) h.core, hlive, rfl⟩
  case preHclen => exact .ok ⟨congrArg (State.setHclen · w) h.core, hlive.1, hlive.2, rfl, rfl⟩
  case preCll group => exact h.setGroup hp w
  case codeLength => exact h.codeLengthSymbol hp hs hu w
  case symbol => exact h.literalLengthSymbol hp w
  case distance run => exact h.distanceSymbol hp hs w

theorem SameRun.nextElement (h : SameRun s u) (hs : s.Inv) (hu : u.Inv) : SameResult s.nextElement u.nextElement := by
  rw [State.nextElement_eq_act, State.nextElement_eq_act, h.elementRead_eq]
  obtain hr | ⟨p, w, hr, hle, -⟩ := s.elementRead_cases
  · rw [hr]
    exact .error _
  · have hp : p ≤ 8 * s.inp.length := hle hs.pos_le
    have hinp : u.inp = s.inp := by rw [h.core]; rfl
    rw [hr]
    exact (h.withPos p).act (hs.withPos hp) (hu.withPos (hinp ▸ hp)) w

/-- Two runs that are the same stay so, or take the same fault. -/
theorem SameRun.runElements (h : SameRun s u) (hs : s.Inv) (hu : u.Inv) (n : Nat) :
    SameRun (s.runElements n) (u.runElements n) ∨
      ∃ (t v : State) (k : FaultKind), t.err = v.err ∧ s.runElements n = t.takeFault k ∧
        u.runElements n = v.takeFault k := by
  induction n generalizing s u with
  | zero => exact .inl h
  | succ n ih =>
    unfold State.runElements State.elementStep
    rw [h.phase_eq]
    split
    · exact .inl h
    have hnext := h.nextElement hs hu
    generalize hx : s.nextElement = x at hnext ⊢
    generalize hy : u.nextElement = y at hnext ⊢
    cases hnext with
    | ok hsame => exact ih hsame (hs.nextElement hx) (hu.nextElement hy)
    | error k =>
      exact .inr ⟨s, u, k, by rw [h.core]; rfl, State.runElements_of_idle rfl n, State.runElements_of_idle rfl n⟩

/-- A call begins the same whatever the core held before, but for IN (R261). -/
theorem SameRun.perCallInit (hs : s.Inv) (hu : u.Inv) (hsf : s.bdState ≠ .failed) (huf : u.bdState ≠ .failed)
    (hinp : s.inp = u.inp) : SameRun s.perCallInit u.perCallInit := by
  refine ⟨?_, trivial⟩
  have herr : s.err = u.err := (hs.err_none hsf).trans (hu.err_none huf).symm
  have hLL : s.tblFixedLL = u.tblFixedLL := hs.fixedLL.trans hu.fixedLL.symm
  have hD : s.tblFixedD = u.tblFixedD := hs.fixedD.trans hu.fixedD.symm
  simp only [State.perCallInit, State.withRest, hinp, herr, hLL, hD]

end Actions

end Sys2Proof.Machine

open Sys2Proof Sys2Proof.Machine

/-- Settles O46: the runs are the same to their end, which both reach (O43), or both take the same fault. -/
theorem bdRunDependsOnTheInputAlone : Obligations.BdRunDependsOnTheInputAlone := by
  intro s u t v hs hu hsf huf hinp ht hv
  obtain ⟨t', ht', hidle, -⟩ := bdRunEndsInDoneOrFailed s hsf (hs.err_none hsf)
  cases ht'.symm.trans ht
  cases (exec_bdRun_of_not_failed hsf).symm.trans ht
  cases (exec_bdRun_of_not_failed huf).symm.trans hv
  have hfuel : u.runFuel = s.runFuel := by rw [State.runFuel, State.runFuel, State.inLen, State.inLen, hinp]
  have hstart := SameRun.perCallInit hs hu hsf huf hinp
  rw [hfuel]
  obtain ⟨hcore, hlive⟩ | ⟨a, b, k, herr, hta, hvb⟩ :=
    hstart.runElements (hs.perCallInit hsf) (hu.perCallInit huf) s.runFuel
  · rw [State.sameLive, hidle] at hlive
    rw [hcore]
    exact ⟨rfl, rfl, hlive.symm, rfl, fun _ => ⟨rfl, rfl, rfl, rfl, rfl, rfl, rfl, rfl⟩⟩
  · rw [hta, hvb]
    exact ⟨rfl, congrArg (some <| Option.getD · k) herr, rfl, rfl, nofun⟩

end

section
/-! PROOFS. Faults and refusals (spec/60_exceptions.md): what fault entry records (O33), that nothing else leads into
FAILED (O34) and only RESET out of it (O35), and that a command is refused exactly when it is of R244's list (O36). -/

namespace Sys2Proof.Machine

/-! ### The commands -/

/-- The sixteen rows of the command port (R62). -/
inductive CommandRow : Instr → Prop
  | reset : CommandRow .reset
  | brPos : CommandRow .brPos
  | brTry : CommandRow .brTry
  | brRdu (n : Int) : CommandRow (.brRdu n)
  | hcBld (slot base count : Int) : CommandRow (.hcBld slot base count)
  | hcDec (slot : Int) : CommandRow (.hcDec slot)
  | swApp (byte : Int) : CommandRow (.swApp byte)
  | swCpy (distance length : Int) : CommandRow (.swCpy distance length)
  | bdRun : CommandRow .bdRun
  | lbSet (index value : Int) : CommandRow (.lbSet index value)
  | csrRd (number : Int) : CommandRow (.csrRd number)
  | reserved11 : CommandRow .reserved11
  | reserved12 : CommandRow .reserved12
  | reserved13 : CommandRow .reserved13
  | reserved14 : CommandRow .reserved14
  | reserved15 : CommandRow .reserved15

/-- An encoding that is a command word. -/
def isCommandWord (e : Encoded) : Prop :=
  match e with
  | .command _ => True
  | .element _ _ => False

theorem commandRow_of_isCommandWord (i : Instr) : isCommandWord (encode i) → CommandRow i := by
  cases i
  case reset | brPos | brTry | brRdu | hcBld | hcDec | swApp | swCpy | bdRun | lbSet | csrRd | reserved11 | reserved12 |
      reserved13 | reserved14 | reserved15 => exact fun _ => by constructor
  all_goals exact False.elim

/-- What is encoded as a command word is one of these rows: every other row is encoded as a stream element. -/
theorem commandRow_of_isCommand {i : Instr} (hi : isCommand i) : CommandRow i := by
  obtain ⟨c, hc⟩ := hi
  exact commandRow_of_isCommandWord i (by rw [hc]; trivial)

/-! ### Into FAILED -/

/-- What leads into FAILED is fault entry, from the state itself or from one further on in a BD.RUN: IN, the fixed
tables and ERR are those of the start (R220, R239). -/
theorem exec_enters_failed {i : Instr} {s t : State} (hf : s.bdState ≠ .failed) (h : exec i s = .next t)
    (ht : t.bdState = .failed) :
    ∃ (u : State) (k : FaultKind), t = u.takeFault k ∧ u.inp = s.inp ∧ u.tblFixedLL = s.tblFixedLL ∧
      u.tblFixedD = s.tblFixedD ∧ u.err = s.err := by
  by_cases hr : i = .reset
  · subst hr; cases h; cases ht
  by_cases hb : i = .bdRun
  · subst hb
    obtain rfl | ho | ⟨u, k, ho, rfl⟩ := exec_bdRun_cases h
    · exact absurd ht hf
    · exact absurd ht (ho.failed BdState.noConfusion)
    · exact ⟨u, k, rfl, ho.inp, ho.fixedLL, ho.fixedD, ho.err⟩
  · obtain ho | ⟨k, rfl⟩ := exec_onward_or_fault hr hb h
    · exact absurd ht (ho.failed hf)
    · exact ⟨s, k, rfl, rfl, rfl, rfl, rfl⟩

/-! ### In FAILED -/

/-- In FAILED every command but RESET and CSR.RD is refused (R241, R244). -/
theorem exec_of_failed {i : Instr} (hi : isCommand i) (hr : i ≠ .reset) (hc : ∀ n, i ≠ .csrRd n) {s : State}
    (hf : s.bdState = .failed) : exec i s = .next s.refuse := by
  cases commandRow_of_isCommand hi
  case reset => exact absurd rfl hr
  case csrRd n => exact absurd rfl (hc n)
  case brPos | brTry | brRdu | hcBld | hcDec | swApp | swCpy | bdRun | lbSet => exact unlessFailed_of_failed hf _
  case reserved11 | reserved12 | reserved13 | reserved14 | reserved15 => rfl

/-- CSR.RD changes nothing but the response and the model's counter of free values, in every state (R215). -/
theorem exec_csrRd_frame {s t : State} {n : Int} (h : exec (.csrRd n) s = .next t) :
    t = { s with resp := t.resp, free := t.free } := by
  change execCsrRd n s = _ at h
  unfold execCsrRd at h
  split at h
  · split at h <;> cases h <;> rfl
  · cases h; rfl

/-! ### The list of refused commands -/

variable {s : State}

theorem refusable_of_failed {i : Instr} (hr : i ≠ .reset) (hc : ∀ n, i ≠ .csrRd n) (hf : s.bdState = .failed) :
    refusable i s := .inr (.inr (.inr (.inr (.inr (.inl ⟨hf, hr, hc⟩)))))

theorem refusable_hcBld {a b c : Int} (h : a < 2 ∨ 4 < a ∨ b < 0 ∨ c < 0 ∨ 320 < b + c) :
    refusable (.hcBld a b c) s := .inr (.inr (.inr (.inr (.inr (.inr (.inl ⟨a, b, c, rfl, h⟩))))))

theorem refusable_hcDec {a : Int} (h : a < 0 ∨ 4 < a ∨ s.table a.toNat = none) : refusable (.hcDec a) s :=
  .inr (.inr (.inr (.inr (.inr (.inr (.inr (.inl ⟨a, rfl, h⟩)))))))

theorem refusable_swApp {a : Int} (h : a < 0 ∨ 255 < a) : refusable (.swApp a) s :=
  .inr (.inr (.inr (.inr (.inr (.inr (.inr (.inr (.inl ⟨a, rfl, h⟩))))))))

theorem refusable_lbSet {a b : Int} (h : a < 0 ∨ 319 < a ∨ b < 0 ∨ 15 < b) : refusable (.lbSet a b) s :=
  .inr (.inr (.inr (.inr (.inr (.inr (.inr (.inr (.inr (.inl ⟨a, b, rfl, h⟩)))))))))

theorem refusable_csrRd {a : Int} (h : a < 0 ∨ 5 < a) : refusable (.csrRd a) s :=
  .inr (.inr (.inr (.inr (.inr (.inr (.inr (.inr (.inr (.inr (⟨a, rfl, h⟩))))))))))

/-- A command that is refused outside FAILED is refused in every state: FAILED is tested before the operands. -/
theorem unlessFailed_eq_refuse {r : Result} (h : s.bdState ≠ .failed → unlessFailed s r = .next s.refuse) :
    unlessFailed s r = .next s.refuse := by
  by_cases hf : s.bdState = .failed
  · exact unlessFailed_of_failed hf r
  · exact h hf

theorem registerOk_iff {n : Int} : registerOk n = true ↔ 0 ≤ n ∧ n ≤ 5 := by
  simp only [registerOk, inRange, Bool.and_eq_true, decide_eq_true_eq]
  omega

/-- A command of the list is refused (R244). -/
theorem exec_of_refusable {i : Instr} (hi : isCommand i) (h : refusable i s) :
    exec i s = .next s.refuse := by
  rcases h with rfl | rfl | rfl | rfl | rfl | ⟨hf, hr, hc⟩ | ⟨a, b, c, rfl, h⟩ | ⟨a, rfl, h⟩ | ⟨a, rfl, h⟩ |
    ⟨a, b, rfl, h⟩ | ⟨a, rfl, h⟩
  · rfl
  · rfl
  · rfl
  · rfl
  · rfl
  · exact exec_of_failed hi hr hc hf
  · refine unlessFailed_eq_refuse fun hf => exec_hcBld_of_not_ok hf ?_
    rw [buildSlotOk_iff, spanOk_iff]
    omega
  · refine unlessFailed_eq_refuse fun hf => ?_
    by_cases hs : decodeSlotOk a = true
    · obtain ⟨h0, h4⟩ := decodeSlotOk_iff.mp hs
      exact exec_hcDec_of_empty hf hs ((h.resolve_left (by omega)).resolve_left (by omega))
    · exact exec_hcDec_of_not_ok hf hs
  · refine unlessFailed_eq_refuse fun hf => exec_swApp_of_not_byte hf ?_
    rw [byteOk_iff]
    omega
  · refine unlessFailed_eq_refuse fun hf => exec_lbSet_of_not_ok hf ?_
    rw [lenIndexOk_iff, codeLengthOk_iff]
    omega
  · refine if_neg ?_
    rw [registerOk_iff]
    omega

/-! ### Every other command is executed -/

/-- The command is executed: it gets a response, and not REFUSED. -/
def Executed (r : Result) : Prop := ∃ t p, r = .next t ∧ t.resp = some p ∧ p.status ≠ .refused

namespace Executed

theorem respondOk (t : State) (value : Nat) : Executed (.next (t.respondOk value)) :=
  ⟨_, _, rfl, rfl, Status.noConfusion⟩

theorem respondNone (t : State) : Executed (.next t.respondNone) := ⟨_, _, rfl, rfl, Status.noConfusion⟩

theorem takeFault (t : State) (k : FaultKind) : Executed (.next (t.takeFault k)) :=
  ⟨_, _, rfl, rfl, Status.noConfusion⟩

theorem csrRd {n : Int} (hn : registerOk n = true) : Executed (exec (.csrRd n) s) := by
  obtain ⟨h0, h5⟩ := registerOk_iff.mp hn
  obtain ⟨m, rfl⟩ := Int.eq_ofNat_of_zero_le h0
  by_cases hf : s.bdState = .failed
  · rw [exec_csrRd_of_failed hf (by omega)]; exact ⟨_, _, rfl, rfl, Status.noConfusion⟩
  · rw [exec_csrRd_of_not_failed hf (by omega)]; exact respondOk _ _

variable (hf : s.bdState ≠ .failed)
include hf

theorem brPos : Executed (exec .brPos s) := by
  rw [exec_brPos_of_not_failed hf]; exact respondOk _ _

theorem brTry : Executed (exec .brTry s) := by
  rcases Nat.lt_or_ge s.pos (8 * s.inLen) with hlt | hle
  · rw [exec_brTry_of_lt hf hlt]; exact respondOk _ _
  · rw [exec_brTry_of_le hf hle]; exact respondNone _

theorem brRdu (n : Int) : Executed (exec (.brRdu n) s) := by
  cases hr : s.readUint n with
  | ok p => rw [exec_brRdu_of_readUint_ok hf hr]; exact respondOk _ _
  | error k => rw [exec_brRdu_of_readUint_error hf hr]; exact takeFault _ _

theorem hcBld {slot base count : Int} (hs : buildSlotOk slot = true) (hspan : spanOk base count = true) :
    Executed (exec (.hcBld slot base count) s) := by
  cases hb : build (s.lenSpan base.toNat count.toNat) with
  | ok t => rw [exec_hcBld_of_build_ok hf hs hspan hb]; exact respondOk _ _
  | error k => rw [exec_hcBld_of_build_error hf hs hspan hb]; exact takeFault _ _

theorem hcDec {slot : Int} {tbl : Table} (hs : decodeSlotOk slot = true) (ht : s.table slot.toNat = some tbl) :
    Executed (exec (.hcDec slot) s) := by
  cases hd : s.decodeSymbol tbl with
  | ok p => rw [exec_hcDec_of_decode_ok hf hs ht hd]; exact respondOk _ _
  | error k => rw [exec_hcDec_of_decode_error hf hs ht hd]; exact takeFault _ _

theorem swApp {byte : Int} (hb : byteOk byte = true) : Executed (exec (.swApp byte) s) := by
  obtain ⟨h0, h255⟩ := byteOk_iff.mp hb
  obtain ⟨b, rfl⟩ := Int.eq_ofNat_of_zero_le h0
  rw [exec_swApp_of_byte hf (by omega)]; exact respondOk _ _

theorem swCpy (distance length : Int) : Executed (exec (.swCpy distance length) s) := by
  cases hc : s.copyBack distance length with
  | ok t => rw [exec_swCpy_of_copyBack_ok hf hc]; exact respondOk _ _
  | error k => rw [exec_swCpy_of_copyBack_error hf hc]; exact takeFault _ _

theorem lbSet {index value : Int} (hi : lenIndexOk index = true) (hv : codeLengthOk value = true) :
    Executed (exec (.lbSet index value) s) := by
  rw [exec_lbSet_of_ok hf hi hv]; exact respondOk _ _

/-- The run has ended, with OUT_LEN or with a fault (R210, R213). -/
theorem bdRun : Executed (exec .bdRun s) := by
  obtain ⟨u, t, hx, -, ⟨-, rfl⟩ | ⟨k, rfl⟩⟩ := exec_bdRun_ends hf
  · rw [hx]; exact ⟨_, _, rfl, rfl, Status.noConfusion⟩
  · rw [hx]; exact takeFault _ _

end Executed

/-- A command that is not of the list is executed, in every state (R244). -/
theorem exec_executed {i : Instr} (hi : isCommand i) (h : ¬ refusable i s) : Executed (exec i s) := by
  by_cases hr : i = .reset
  · subst hr; exact .respondOk _ _
  by_cases hc : ∃ n, i = .csrRd n
  · obtain ⟨n, rfl⟩ := hc
    have hdom := mt refusable_csrRd h
    exact .csrRd (registerOk_iff.mpr (by omega))
  have hf : s.bdState ≠ .failed := fun hb => h (refusable_of_failed hr (not_exists.mp hc) hb)
  cases commandRow_of_isCommand hi
  case reset => exact absurd rfl hr
  case csrRd n => exact absurd ⟨n, rfl⟩ hc
  case brPos => exact .brPos hf
  case brTry => exact .brTry hf
  case brRdu n => exact .brRdu hf n
  case hcBld slot base count =>
    have hdom := mt refusable_hcBld h
    exact .hcBld hf (buildSlotOk_iff.mpr (by omega)) (spanOk_iff.mpr (by omega))
  case hcDec slot =>
    obtain ⟨h0, hdom⟩ := not_or.mp (mt refusable_hcDec h)
    obtain ⟨h4, htbl⟩ := not_or.mp hdom
    obtain ⟨tbl, ht⟩ := Option.ne_none_iff_exists'.mp htbl
    exact .hcDec hf (decodeSlotOk_iff.mpr (by omega)) ht
  case swApp byte =>
    have hdom := mt refusable_swApp h
    exact .swApp hf (byteOk_iff.mpr (by omega))
  case swCpy distance length => exact .swCpy hf distance length
  case bdRun => exact .bdRun hf
  case lbSet index value =>
    have hdom := mt refusable_lbSet h
    exact .lbSet hf (lenIndexOk_iff.mpr (by omega)) (codeLengthOk_iff.mpr (by omega))
  case reserved11 => exact absurd (.inl rfl) h
  case reserved12 => exact absurd (.inr (.inl rfl)) h
  case reserved13 => exact absurd (.inr (.inr (.inl rfl))) h
  case reserved14 => exact absurd (.inr (.inr (.inr (.inl rfl)))) h
  case reserved15 => exact absurd (.inr (.inr (.inr (.inr (.inl rfl))))) h

end Sys2Proof.Machine

open Sys2Proof Sys2Proof.Machine

/-- Settles O33: ERR keeps an earlier kind, and every free value is taken within its range. -/
theorem faultEntryRecordsTheKind : Obligations.FaultEntryRecordsTheKind := by
  rintro s _ k rfl
  refine ⟨fun he => ?_, fun j he => ?_, rfl, rfl, rfl, rfl, rfl, rfl, rfl, ?_, ?_, ?_⟩
  · rw [State.takeFault_err, he]; rfl
  · rw [State.takeFault_err, he]; rfl
  · exact Nat.lt_succ_iff.mp (Nat.mod_lt _ (Nat.succ_pos _))
  · exact Nat.mod_lt _ (by decide)
  · exact Nat.lt_succ_iff.mp (Nat.mod_lt _ (by decide))

/-- Settles O34: the fault is taken with ERR still 0, and fault entry records its kind (O33). -/
theorem failedIsEnteredOnlyByAFault : Obligations.FailedIsEnteredOnlyByAFault := by
  intro i s t hf he h ht
  obtain ⟨u, k, rfl, hinp, hLL, hD, herr⟩ := exec_enters_failed hf h ht
  obtain ⟨hfirst, -, -, hresp, -, -, -, hout, hidle, -⟩ := faultEntryRecordsTheKind u _ k rfl
  exact ⟨k, hfirst (herr.trans he), hresp, hinp, hLL, hD, hout, hidle⟩

/-- Settles O35: between runs no stream element answers, and every command but CSR.RD is refused. -/
theorem onlyResetLeavesFailed : Obligations.OnlyResetLeavesFailed := by
  intro i s t hf hp hr h
  cases he : encode i with
  | element f w => exact absurd hp (exec_element_cases he h).1
  | command c =>
    by_cases hc : ∃ n, i = .csrRd n
    · obtain ⟨n, rfl⟩ := hc
      rw [exec_csrRd_frame h]
      exact ⟨hf, rfl, hp⟩
    · cases (exec_of_failed ⟨c, he⟩ hr (not_exists.mp hc) hf).symm.trans h
      exact ⟨hf, rfl, hp⟩

/-- Settles O36: FAILED, the operands' domains and the EMPTY slot are all that a command is refused for. -/
theorem exactlyTheListedCommandsAreRefused : Obligations.ExactlyTheListedCommandsAreRefused :=
  fun _ _ hi => ⟨exec_of_refusable hi, exec_executed hi⟩

end

section
/-! PROOFS. Reset (spec/70_reset_and_hazards.md R260): the state RESET leads to, element by element (O37). -/

namespace Sys2Proof.Machine

/-- RESET is accepted in every state, FAILED included (R241, R260). -/
theorem exec_reset (s : State) : exec .reset s = .next (s.restart.respondOk 0) := rfl

/-- TBL[0] holds the fixed literal/length table again (R29, R74). -/
theorem State.restart_tblFixedLL (s : State) : s.restart.tblFixedLL = (build fixedLLLens).toOption := fixedLLTable_eq

/-- TBL[1] holds the fixed distance table again (R29, R74). -/
theorem State.restart_tblFixedD (s : State) : s.restart.tblFixedD = (build fixedDLens).toOption := fixedDTable_eq

end Sys2Proof.Machine

open Sys2Proof Sys2Proof.Machine

/-- Settles O37: the new state is `State.reset` but for IN, the port, the response, the window's era and the free counter,
so every element asked for but the two fixed tables is read off it. -/
theorem resetRestoresEveryElement : Obligations.ResetRestoresEveryElement := fun s =>
  ⟨_, exec_reset s, rfl, rfl, rfl, s.restart_tblFixedLL, s.restart_tblFixedD,
    rfl, rfl, rfl, rfl, rfl, rfl, rfl, rfl, rfl, rfl, rfl, rfl, rfl, rfl, rfl, rfl, rfl⟩

end
